-- ==== Sys2Proof/Word.lean ====
section
/-! DEFINITION. The words of the block: the CPU address, the datum, the 25-bit transaction word `T` of
spec/30_encoding.md R120, and the 32-bit seconds of the two clocks (spec/00_scope.md R7, R11). -/

namespace Sys2Proof

/-- A datum on the bus, one byte of an image, one latched clock register (R7). -/
abbrev Byte := BitVec 8

/-- A CPU address (R7). -/
abbrev Addr := BitVec 16

/-- The transaction word `T`: `T[24] = rw`, `T[23:8] = addr`, `T[7:0] = data` (R120). -/
abbrev Word := BitVec 25

/-- Epoch seconds; arithmetic on them is modulo `2^32` (R11). -/
abbrev Time := BitVec 32

/-- A ROM bank number (`M.rombank`, `W.rom0`, `W.rom`: 16 bits, R22, R30). -/
abbrev RomBank := BitVec 16

/-- A RAM bank number (`M.rambank`, `W.ram`: 8 bits, R22, R30). -/
abbrev RamBank := BitVec 8

/-- A number of seconds as a 32-bit time (R11: arithmetic on times is modulo `2^32`). -/
def seconds (n : Nat) : Time := BitVec.ofNat 32 n

end Sys2Proof
end

