-- ==== Sys2Proof/Config.lean ====
section
/-! DEFINITION. The configuration record `Cfg` of spec/00_scope.md R5, the names it uses, what an implementation
fixes (the open parameters of spec/92_eei_decisions.md section 9) and the free values. -/

namespace Sys2Proof

/-- The eight variants of the block (R2); `mbc1m64` is MBC1-Multi64. -/
inductive Variant where
  | plain | mbc1 | mbc1m64 | mbc2 | mbc3 | huc1 | mbc5 | tpp1
  deriving DecidableEq, Repr

/-- The five MBC3 clock registers; `RTC.index` 0 to 4 in this order (spec/10_state.md R40,
spec/41_rtc_mbc3.md R171). DESIGN CHOICE, log 14: the index is held as the register it names. -/
inductive RtcReg where
  | s | m | h | dl | dh
  deriving DecidableEq, Repr

/-- `Cfg` (R5), less the ROM bytes, which `State.rom` holds. `txRunningReset` is the open parameter
`TX_RUNNING_RESET` (spec/10_state.md R60; log 9). -/
structure Cfg where
  variant : Variant
  rombanks : Nat
  rambanks : Nat
  rtcWired : Bool
  features : Byte
  battery : Bool
  hasRtc : Bool
  hostClock : Bool
  txRunningReset : Bool
  deriving DecidableEq, Repr

/-- Number of bytes of the ROM image (R5, spec/10_state.md R35). -/
def Cfg.romSize (c : Cfg) : Nat := c.rombanks * 0x4000

/-- Number of bytes of the RAM image (spec/10_state.md R36). -/
def Cfg.ramSize (c : Cfg) : Nat := c.rambanks * 0x2000

/-- `n` is a power of two (R5). -/
def isPow2 (n : Nat) : Bool := n == 2 ^ n.log2

/-- The constraints of R5 and R6 that every configuration meets, however it was derived: powers of two, the clock wired
only in MBC3, MBC1M64 with 64 ROM banks and no RAM, MBC2 never without its RAM, TPP1 with at most 256 RAM banks. -/
def Cfg.legal (c : Cfg) : Bool :=
  isPow2 c.rombanks && decide (2 ≤ c.rombanks) && (c.rambanks == 0 || isPow2 c.rambanks)
    && (!c.rtcWired || c.variant == .mbc3)
    && (c.variant != .mbc1m64 || (c.rombanks == 64 && c.rambanks == 0))
    && (c.variant != .mbc2 || c.rambanks != 0)
    && (c.variant != .tpp1 || decide (c.rambanks ≤ 256))

/-- `RAMBANKS_UNLISTED(c)` (spec/60_exceptions.md R334) is not stated for RAM size code 1 and codes 6 and above, but it is
"a power of two" (spec/92_eei_decisions.md section 9), of which this is the exponent: a free value with no body. That the
0 which R6 also allows is shut out is DEDUCED, log 8. -/
opaque Config.rambanksUnlistedLog2 : Byte → Nat

/-- The bank count `RAMBANKS_UNLISTED(c)`. -/
def Config.rambanksUnlisted (c : Byte) : Nat := 2 ^ Config.rambanksUnlistedLog2 c

/-- The value of `can_map_bank_at` outside MBC1M64, where the spec gives it no equation
(spec/60_exceptions.md R356, spec/93_implementation_defined.md U3): a free value, applied to a counter in State. Log 10. -/
opaque Config.freeCanMap : Nat → Bool

/-- The configuration `State.reset` starts from. DESIGN CHOICE, log 2: reset is the loading of a ROM and any legal
`Cfg` can be loaded; a TPP1 with two ROM banks, one RAM bank, clock and battery, and a host clock. -/
def Config.resetCfg : Cfg :=
  ⟨.tpp1, 2, 1, false, 0x0C#8, true, true, true, false⟩

/-- `W.re` after reset: 0, except HUC1 and TPP1 (spec/10_state.md R60). -/
def Variant.resetRe (v : Variant) : Bool := v == .huc1 || v == .tpp1

/-- `W.rtc_en` after reset: 0, except TPP1 (spec/10_state.md R60). -/
def Variant.resetRtcEn (v : Variant) : Bool := v == .tpp1

end Sys2Proof
end

