-- ==== Sys2Proof/Syntax.lean ====
section
/-! DEFINITION. The bus transactions of the block, one constructor per row of spec/opcode_table.json
(spec/30_encoding.md R129, R136). Operands are the fields the row's rule uses; address bits that no decoder reads
(mirrors, R121) are not operands. A datum is carried whole: the masks of R128 are applied by the meanings. -/

namespace Sys2Proof

inductive Instr where
  /-- RD.ROM0, read through the low window at offset `T[21:8]` (R153). -/
  | rdRom0 (off : BitVec 14)
  /-- RD.ROMX, read through the high window at offset `T[21:8]` (R154). -/
  | rdRomx (off : BitVec 14)
  /-- RD.XRAM, read through the RAM window at offset `T[20:8]` (R156). -/
  | rdXram (off : BitVec 13)
  /-- WR.XRAM, write through the RAM window at offset `T[20:8]` (R157). -/
  | wrXram (off : BitVec 13) (data : Byte)
  /-- EXT.8000, a transaction at `0x8000..0x9FFF`, outside the block (R155). -/
  | ext8000 (write : Bool) (off : BitVec 13) (data : Byte)
  /-- EXT.C000, a transaction at `0xC000..0xFFFF`, outside the block (R155). -/
  | extC000 (write : Bool) (off : BitVec 14) (data : Byte)
  /-- RTC.RD.S, read MBC3 clock register S (R174). -/
  | rtcRdS
  /-- RTC.RD.M, read MBC3 clock register M (R174). -/
  | rtcRdM
  /-- RTC.RD.H, read MBC3 clock register H (R174). -/
  | rtcRdH
  /-- RTC.RD.DL, read MBC3 clock register DL (R174). -/
  | rtcRdDl
  /-- RTC.RD.DH, read MBC3 clock register DH (R174). -/
  | rtcRdDh
  /-- RTC.WR.S, write MBC3 clock register S (R176). -/
  | rtcWrS (data : Byte)
  /-- RTC.WR.M, write MBC3 clock register M (R177). -/
  | rtcWrM (data : Byte)
  /-- RTC.WR.H, write MBC3 clock register H (R178). -/
  | rtcWrH (data : Byte)
  /-- RTC.WR.DL, write MBC3 clock register DL (R179). -/
  | rtcWrDl (data : Byte)
  /-- RTC.WR.DH, write MBC3 clock register DH (R180). -/
  | rtcWrDh (data : Byte)
  /-- TX.RD.MR0, read TPP1 register MR0 (R201). -/
  | txRdMr0
  /-- TX.RD.MR1, read TPP1 register MR1 (R201). -/
  | txRdMr1
  /-- TX.RD.MR2, read TPP1 register MR2 (R201). -/
  | txRdMr2
  /-- TX.RD.MR3, read TPP1 register MR3 (R201). -/
  | txRdMr3
  /-- TX.RD.W, read TPP1 register W (R202). -/
  | txRdW
  /-- TX.RD.H, read TPP1 register H (R202). -/
  | txRdH
  /-- TX.RD.M, read TPP1 register M (R202). -/
  | txRdM
  /-- TX.RD.S, read TPP1 register S (R202). -/
  | txRdS
  /-- TX.WR.W, write TPP1 register W (R203). -/
  | txWrW (data : Byte)
  /-- TX.WR.H, write TPP1 register H (R203). -/
  | txWrH (data : Byte)
  /-- TX.WR.M, write TPP1 register M (R203). -/
  | txWrM (data : Byte)
  /-- TX.WR.S, write TPP1 register S (R203). -/
  | txWrS (data : Byte)
  /-- PLAIN.RAMEN, control-register write (R235). -/
  | plainRamen (data : Byte)
  /-- PLAIN.IGN.R1, an ignored write (R236). -/
  | plainIgnR1 (data : Byte)
  /-- PLAIN.IGN.R23, an ignored write (R236). -/
  | plainIgnR23 (data : Byte)
  /-- MBC1.RAMEN, control-register write (R240). -/
  | mbc1Ramen (data : Byte)
  /-- MBC1.BANK1, control-register write (R241). -/
  | mbc1Bank1 (data : Byte)
  /-- MBC1.BANK2, control-register write (R242). -/
  | mbc1Bank2 (data : Byte)
  /-- MBC1.MODE, control-register write (R243). -/
  | mbc1Mode (data : Byte)
  /-- M64.RAMEN, control-register write (R250). -/
  | m64Ramen (data : Byte)
  /-- M64.BANK1, control-register write (R251). -/
  | m64Bank1 (data : Byte)
  /-- M64.BANK2, control-register write (R252). -/
  | m64Bank2 (data : Byte)
  /-- M64.MODE, control-register write (R253). -/
  | m64Mode (data : Byte)
  /-- MBC2.RAMEN, control-register write (R261). -/
  | mbc2Ramen (data : Byte)
  /-- MBC2.ROMB, control-register write (R262). -/
  | mbc2Romb (data : Byte)
  /-- MBC2.IGN.0100, an ignored write (R263). -/
  | mbc2Ign0100 (data : Byte)
  /-- MBC2.IGN.2000, an ignored write (R263). -/
  | mbc2Ign2000 (data : Byte)
  /-- MBC2.IGN.HI, an ignored write (R263). -/
  | mbc2IgnHi (data : Byte)
  /-- MBC3.RAMEN, control-register write (R271). -/
  | mbc3Ramen (data : Byte)
  /-- MBC3.ROMB, control-register write (R272). -/
  | mbc3Romb (data : Byte)
  /-- MBC3.RAMB, control-register write (R273). -/
  | mbc3Ramb (data : Byte)
  /-- MBC3.LATCH, control-register write (R274). -/
  | mbc3Latch (data : Byte)
  /-- HUC1.RAMEN, control-register write (R281). -/
  | huc1Ramen (data : Byte)
  /-- HUC1.ROMB, control-register write (R282). -/
  | huc1Romb (data : Byte)
  /-- HUC1.RAMB, control-register write (R283). -/
  | huc1Ramb (data : Byte)
  /-- HUC1.MODE, control-register write (R284). -/
  | huc1Mode (data : Byte)
  /-- MBC5.RAMEN, control-register write (R291). -/
  | mbc5Ramen (data : Byte)
  /-- MBC5.ROMB0, control-register write (R292). -/
  | mbc5Romb0 (data : Byte)
  /-- MBC5.ROMB1, control-register write (R293). -/
  | mbc5Romb1 (data : Byte)
  /-- MBC5.RAMB, control-register write (R294). -/
  | mbc5Ramb (data : Byte)
  /-- MBC5.IGN, an ignored write (R295). -/
  | mbc5Ign (data : Byte)
  /-- TPP1.MR0, control-register write (R301). -/
  | tpp1Mr0 (data : Byte)
  /-- TPP1.MR1, control-register write (R302). -/
  | tpp1Mr1 (data : Byte)
  /-- TPP1.MR2, control-register write (R303). -/
  | tpp1Mr2 (data : Byte)
  /-- TPP1.MAP0, control-register write (R304). -/
  | tpp1Map0
  /-- TPP1.MAP1, control-register write (R305). -/
  | tpp1Map1
  /-- TPP1.MAP2, control-register write (R306). -/
  | tpp1Map2
  /-- TPP1.MAP3, control-register write (R307). -/
  | tpp1Map3
  /-- TPP1.LATCH, control-register write (R308). -/
  | tpp1Latch
  /-- TPP1.SETTIME, control-register write (R309). -/
  | tpp1Settime
  /-- TPP1.CLROVF, control-register write (R310). -/
  | tpp1Clrovf
  /-- TPP1.HALT, control-register write (R311). -/
  | tpp1Halt
  /-- TPP1.RESUME, control-register write (R312). -/
  | tpp1Resume
  /-- TPP1.RUMBLE, control-register write (R313). -/
  | tpp1Rumble (level : BitVec 2)
  /-- TPP1.MR3IGN, an ignored write (R315). -/
  | tpp1Mr3ign (code : Byte)
  /-- TPP1.IGN, an ignored write (R314). -/
  | tpp1Ign (data : Byte)
  deriving DecidableEq, Repr

end Sys2Proof
end

