-- ==== Sys2Proof/WellFormed.lean ====
section
/-! DEFINITION. When a term of `Instr` is a transaction the encoding admits. Two checks: an ignored MR3 command code
is none of the codes another row takes (spec/49_tpp1.md R315), and a read outside the block has no datum
(spec/30_encoding.md R120: "for a read the field is not an input (it is written 0 in encodings)"). -/

namespace Sys2Proof

/-- The MR3 command codes that act (spec/30_encoding.md R130): 13 of 256 (spec/49_tpp1.md R317). -/
def mr3Acts (code : Byte) : Bool :=
  code == 0x00#8 || code == 0x02#8 || code == 0x03#8 || code == 0x05#8 || code == 0x10#8 || code == 0x11#8
    || code == 0x14#8 || code == 0x18#8 || code == 0x19#8
    || code == 0x20#8 || code == 0x21#8 || code == 0x22#8 || code == 0x23#8

/-- A read carries the datum 0. -/
def readHasNoDatum (write : Bool) (data : Byte) : Bool := write || data == 0#8

/-- Well-formedness of a transaction. -/
def Instr.wf (i : Instr) : Bool :=
  match i with
  | .rdRom0 _ => true
  | .rdRomx _ => true
  | .rdXram _ => true
  | .wrXram _ _ => true
  | .ext8000 write _ data => readHasNoDatum write data
  | .extC000 write _ data => readHasNoDatum write data
  | .rtcRdS => true
  | .rtcRdM => true
  | .rtcRdH => true
  | .rtcRdDl => true
  | .rtcRdDh => true
  | .rtcWrS _ => true
  | .rtcWrM _ => true
  | .rtcWrH _ => true
  | .rtcWrDl _ => true
  | .rtcWrDh _ => true
  | .txRdMr0 => true
  | .txRdMr1 => true
  | .txRdMr2 => true
  | .txRdMr3 => true
  | .txRdW => true
  | .txRdH => true
  | .txRdM => true
  | .txRdS => true
  | .txWrW _ => true
  | .txWrH _ => true
  | .txWrM _ => true
  | .txWrS _ => true
  | .plainRamen _ => true
  | .plainIgnR1 _ => true
  | .plainIgnR23 _ => true
  | .mbc1Ramen _ => true
  | .mbc1Bank1 _ => true
  | .mbc1Bank2 _ => true
  | .mbc1Mode _ => true
  | .m64Ramen _ => true
  | .m64Bank1 _ => true
  | .m64Bank2 _ => true
  | .m64Mode _ => true
  | .mbc2Ramen _ => true
  | .mbc2Romb _ => true
  | .mbc2Ign0100 _ => true
  | .mbc2Ign2000 _ => true
  | .mbc2IgnHi _ => true
  | .mbc3Ramen _ => true
  | .mbc3Romb _ => true
  | .mbc3Ramb _ => true
  | .mbc3Latch _ => true
  | .huc1Ramen _ => true
  | .huc1Romb _ => true
  | .huc1Ramb _ => true
  | .huc1Mode _ => true
  | .mbc5Ramen _ => true
  | .mbc5Romb0 _ => true
  | .mbc5Romb1 _ => true
  | .mbc5Ramb _ => true
  | .mbc5Ign _ => true
  | .tpp1Mr0 _ => true
  | .tpp1Mr1 _ => true
  | .tpp1Mr2 _ => true
  | .tpp1Map0 => true
  | .tpp1Map1 => true
  | .tpp1Map2 => true
  | .tpp1Map3 => true
  | .tpp1Latch => true
  | .tpp1Settime => true
  | .tpp1Clrovf => true
  | .tpp1Halt => true
  | .tpp1Resume => true
  | .tpp1Rumble _ => true
  | .tpp1Mr3ign code => !mr3Acts code
  | .tpp1Ign _ => true

end Sys2Proof
end

