-- ==== Sys2Proof/Decode.lean ====
section
/-! DEFINITION. Decoding and encoding of the 25-bit transaction word `T` (spec/30_encoding.md). The row a word selects
depends on the variant (R122 to R126) and, in the RAM window, on state (R132, R133): `DecodeMode` is what decoding reads.
Every word decodes (R131: "There are no illegal encodings"); bytes that are no word are rejected by name. -/

namespace Sys2Proof

/-! ## The fields of `T` (R120, R121) -/

/-- `T[24]`: 1 = write, 0 = read. -/
def tRw (t : Word) : Bool := t.getLsbD 24

/-- `T[23:8]`: the CPU address. -/
def tAddr (t : Word) : Addr := t.extractLsb' 8 16

/-- `T[7:0]`: the datum of a write. -/
def tData (t : Word) : Byte := t.extractLsb' 0 8

/-- A transaction `(rw, addr, data)` as a word (R120). -/
def pack (rw : Bool) (addr : Addr) (data : Byte) : Word := BitVec.ofBool rw ++ addr ++ data

/-- The 2-bit region selector `(addr >> 13) & 3` (R121, spec/00_scope.md R13). -/
def region (a : Addr) : BitVec 2 := a.extractLsb' 13 2

/-- `addr & 3` (R121): the TPP1 register selector and the TX register index. -/
def low2 (a : Addr) : BitVec 2 := a.extractLsb' 0 2

/-! ## What decoding depends on (R132, R133) -/

/-- The configuration and state that select among rows with one bit pattern. -/
structure DecodeMode where
  variant : Variant
  rtcWired : Bool
  re : Bool
  we : Bool
  rtcEn : Bool
  reg : RtcReg
  curmap : BitVec 2
  deriving DecidableEq, Repr

/-- A RAM-window read is an RTC.RD operation (R133 and the `when` key of its rows). -/
def DecodeMode.readsRtc (m : DecodeMode) : Bool := m.variant == .mbc3 && m.rtcWired && m.re && m.rtcEn

/-- A RAM-window write is an RTC.WR operation. -/
def DecodeMode.writesRtc (m : DecodeMode) : Bool := m.variant == .mbc3 && m.rtcWired && m.we && m.rtcEn

/-- A RAM-window read is a TX.RD operation of map mode `k` (0: MR0 to MR3, 3: W, H, M, S). -/
def DecodeMode.readsTx (m : DecodeMode) (k : BitVec 2) : Bool :=
  m.variant == .tpp1 && m.re && m.rtcEn && m.curmap == k

/-- A RAM-window write is a TX.WR operation. -/
def DecodeMode.writesTx (m : DecodeMode) : Bool :=
  m.variant == .tpp1 && m.we && m.rtcEn && m.curmap == 3#2

/-! ## The decoder -/

/-- RTC.RD of the selected register (R133). -/
def decodeRtcRd (r : RtcReg) : Instr :=
  match r with
  | .s => .rtcRdS
  | .m => .rtcRdM
  | .h => .rtcRdH
  | .dl => .rtcRdDl
  | .dh => .rtcRdDh

/-- RTC.WR of the selected register (R133). -/
def decodeRtcWr (r : RtcReg) (data : Byte) : Instr :=
  match r with
  | .s => .rtcWrS data
  | .m => .rtcWrM data
  | .h => .rtcWrH data
  | .dl => .rtcWrDl data
  | .dh => .rtcWrDh data

/-- The instruction a 2-bit selector picks: of a region (R123) or of `addr & 3` (R126, R133). -/
def pick4 (k : BitVec 2) (i0 i1 i2 i3 : Instr) : Instr :=
  if k = 0#2 then i0 else if k = 1#2 then i1 else if k = 2#2 then i2 else i3

/-- TX.RD.MR0 to MR3 by `addr & 3` (R133). -/
def decodeTxRdMr (k : BitVec 2) : Instr := pick4 k .txRdMr0 .txRdMr1 .txRdMr2 .txRdMr3

/-- TX.RD.W, H, M, S by `addr & 3` (R133). -/
def decodeTxRdClock (k : BitVec 2) : Instr := pick4 k .txRdW .txRdH .txRdM .txRdS

/-- TX.WR.W, H, M, S by `addr & 3` (R133). -/
def decodeTxWr (k : BitVec 2) (data : Byte) : Instr :=
  pick4 k (.txWrW data) (.txWrH data) (.txWrM data) (.txWrS data)

/-- A read at `0xA000..0xBFFF`: RD.XRAM, or the state-selected row that replaces it (R133, R136). -/
def decodeRdXram (m : DecodeMode) (a : Addr) : Instr :=
  if m.readsRtc then decodeRtcRd m.reg
  else if m.readsTx 0#2 then decodeTxRdMr (low2 a)
  else if m.readsTx 3#2 then decodeTxRdClock (low2 a)
  else .rdXram (a.extractLsb' 0 13)

/-- A write at `0xA000..0xBFFF`: WR.XRAM, or the state-selected row that replaces it (R133, R136). -/
def decodeWrXram (m : DecodeMode) (a : Addr) (data : Byte) : Instr :=
  if m.writesRtc then decodeRtcWr m.reg data
  else if m.writesTx then decodeTxWr (low2 a) data
  else .wrXram (a.extractLsb' 0 13) data

/-- PLAIN, format W-REGION (R123). -/
def decodePlain (a : Addr) (data : Byte) : Instr :=
  pick4 (region a) (.plainRamen data) (.plainIgnR1 data) (.plainIgnR23 data) (.plainIgnR23 data)

/-- MBC1, format W-REGION (R123). -/
def decodeMbc1 (a : Addr) (data : Byte) : Instr :=
  pick4 (region a) (.mbc1Ramen data) (.mbc1Bank1 data) (.mbc1Bank2 data) (.mbc1Mode data)

/-- MBC1-Multi64, format W-REGION (R123). -/
def decodeM64 (a : Addr) (data : Byte) : Instr :=
  pick4 (region a) (.m64Ramen data) (.m64Bank1 data) (.m64Bank2 data) (.m64Mode data)

/-- MBC2, format W-MBC2: `addr & 0x6100`, that is bits 14, 13 and 8 (R125). -/
def decodeMbc2 (a : Addr) (data : Byte) : Instr :=
  if a &&& 0x6100#16 = 0x0000#16 then .mbc2Ramen data
  else if a &&& 0x6100#16 = 0x2100#16 then .mbc2Romb data
  else if a &&& 0x6100#16 = 0x0100#16 then .mbc2Ign0100 data
  else if a &&& 0x6100#16 = 0x2000#16 then .mbc2Ign2000 data
  else .mbc2IgnHi data

/-- MBC3, format W-REGION (R123). -/
def decodeMbc3 (a : Addr) (data : Byte) : Instr :=
  pick4 (region a) (.mbc3Ramen data) (.mbc3Romb data) (.mbc3Ramb data) (.mbc3Latch data)

/-- HuC1, format W-REGION (R123). -/
def decodeHuc1 (a : Addr) (data : Byte) : Instr :=
  pick4 (region a) (.huc1Ramen data) (.huc1Romb data) (.huc1Ramb data) (.huc1Mode data)

/-- MBC5, format W-MBC5: region 1 is split by `addr[12]` (R124). -/
def decodeMbc5 (a : Addr) (data : Byte) : Instr :=
  pick4 (region a) (.mbc5Ramen data) (if a.getLsbD 12 then .mbc5Romb1 data else .mbc5Romb0 data)
    (.mbc5Ramb data) (.mbc5Ign data)

/-- The MR3 command codes (R130); any other code is ignored (spec/49_tpp1.md R315). -/
def decodeMr3 (code : Byte) : Instr :=
  if code = 0x00#8 then .tpp1Map0
  else if code = 0x02#8 then .tpp1Map1
  else if code = 0x03#8 then .tpp1Map2
  else if code = 0x05#8 then .tpp1Map3
  else if code = 0x10#8 then .tpp1Latch
  else if code = 0x11#8 then .tpp1Settime
  else if code = 0x14#8 then .tpp1Clrovf
  else if code = 0x18#8 then .tpp1Halt
  else if code = 0x19#8 then .tpp1Resume
  else if code.extractLsb' 2 6 = 0b001000#6 then .tpp1Rumble (code.extractLsb' 0 2)
  else .tpp1Mr3ign code

/-- TPP1, format W-TPP1: only `addr < 0x4000` is accepted, the register is `addr & 3` (R126). -/
def decodeTpp1 (a : Addr) (data : Byte) : Instr :=
  if a.getLsbD 14 then .tpp1Ign data
  else pick4 (low2 a) (.tpp1Mr0 data) (.tpp1Mr1 data) (.tpp1Mr2 data) (decodeMr3 data)

/-- The write decoder of the variant, for a write at `0x0000..0x7FFF` (R122). -/
def decodeControl (v : Variant) (a : Addr) (data : Byte) : Instr :=
  match v with
  | .plain => decodePlain a data
  | .mbc1 => decodeMbc1 a data
  | .mbc1m64 => decodeM64 a data
  | .mbc2 => decodeMbc2 a data
  | .mbc3 => decodeMbc3 a data
  | .huc1 => decodeHuc1 a data
  | .mbc5 => decodeMbc5 a data
  | .tpp1 => decodeTpp1 a data

/-- The datum of a transaction outside the block: a read has none (R120). -/
def extData (t : Word) : Byte := if tRw t then tData t else 0#8

/-- The routing of R122. Total: every word falls in exactly one line. -/
def decode (m : DecodeMode) (t : Word) : Instr :=
  if (tAddr t).extractLsb' 13 3 = 0b100#3 then .ext8000 (tRw t) ((tAddr t).extractLsb' 0 13) (extData t)
  else if (tAddr t).extractLsb' 14 2 = 0b11#2 then .extC000 (tRw t) ((tAddr t).extractLsb' 0 14) (extData t)
  else if (tAddr t).extractLsb' 13 3 = 0b101#3 then
    (if tRw t then decodeWrXram m (tAddr t) (tData t) else decodeRdXram m (tAddr t))
  else if tRw t then decodeControl m.variant (tAddr t) (tData t)
  else if (tAddr t).getLsbD 14 then .rdRomx ((tAddr t).extractLsb' 0 14)
  else .rdRom0 ((tAddr t).extractLsb' 0 14)

/-! ## Bytes

DESIGN CHOICE, log 17: the spec gives `T` no layout in bytes. A word is handed to the decoder as four bytes, least
significant first, the seven bits above `T[24]` zero. -/

/-- Why bytes are no transaction word. -/
inductive Reject where
  /-- fewer than four bytes -/
  | tooShort
  /-- more than four bytes -/
  | tooLong
  /-- one of the seven bits above `T[24]` is set -/
  | bitsAboveWord
  deriving DecidableEq, Repr

/-- The word four bytes hold, or the reason there is none. -/
def wordOfBytes (bs : List Byte) : Except Reject Word :=
  match bs with
  | [b0, b1, b2, b3] =>
    if b3.toNat < 2 then
      .ok (BitVec.ofNat 25 (b0.toNat + 0x100 * b1.toNat + 0x10000 * b2.toNat + 0x1000000 * b3.toNat))
    else .error .bitsAboveWord
  | _ :: _ :: _ :: _ :: _ :: _ => .error .tooLong
  | _ => .error .tooShort

/-- Decoding of bytes, total: an instruction or a named rejection. -/
def decodeBytes (m : DecodeMode) (bs : List Byte) : Except Reject Instr :=
  match wordOfBytes bs with
  | .ok t => .ok (decode m t)
  | .error r => .error r

/-- `k` bytes of a number, least significant first. -/
def bytesLE : Nat → Nat → List Byte
  | 0, _ => []
  | k + 1, n => BitVec.ofNat 8 n :: bytesLE k (n / 256)

/-- What decoding reads right after reset (spec/10_state.md R60) in the configuration `c`. -/
def DecodeMode.afterReset (c : Cfg) : DecodeMode :=
  ⟨c.variant, c.rtcWired, c.variant.resetRe, false, c.variant.resetRtcEn, .s, 0#2⟩

/-- The bytes of a table word: four, or as many as `nbits` asks for. -/
def tableBytes (nbits w : Nat) : List Byte := bytesLE (max 4 ((nbits + 7) / 8)) (w % 2 ^ nbits)

/-- What the decoder reads from the bits `w` of a row of spec/opcode_table.json, in the configuration and state of
`State.reset` (DESIGN CHOICE, log 17: rows of other variants and states share these words, R136). -/
def decodeTableWord (nbits w : Nat) : Option Instr :=
  match decodeBytes (DecodeMode.afterReset Config.resetCfg) (tableBytes nbits w) with
  | .ok i => some i
  | .error _ => none

/-! ## The encoder -/

/-- The word of a transaction, its ignored bits zero (match column of the table, operand fields of R127, R128). -/
def encode (i : Instr) : Word :=
  match i with
  | .rdRom0 off => pack false (0b00#2 ++ off) 0#8
  | .rdRomx off => pack false (0b01#2 ++ off) 0#8
  | .rdXram off => pack false (0b101#3 ++ off) 0#8
  | .wrXram off data => pack true (0b101#3 ++ off) data
  | .ext8000 write off data => pack write (0b100#3 ++ off) data
  | .extC000 write off data => pack write (0b11#2 ++ off) data
  | .rtcRdS => pack false 0xA000#16 0x00#8
  | .rtcRdM => pack false 0xA000#16 0x00#8
  | .rtcRdH => pack false 0xA000#16 0x00#8
  | .rtcRdDl => pack false 0xA000#16 0x00#8
  | .rtcRdDh => pack false 0xA000#16 0x00#8
  | .rtcWrS data => pack true 0xA000#16 data
  | .rtcWrM data => pack true 0xA000#16 data
  | .rtcWrH data => pack true 0xA000#16 data
  | .rtcWrDl data => pack true 0xA000#16 data
  | .rtcWrDh data => pack true 0xA000#16 data
  | .txRdMr0 => pack false 0xA000#16 0x00#8
  | .txRdMr1 => pack false 0xA001#16 0x00#8
  | .txRdMr2 => pack false 0xA002#16 0x00#8
  | .txRdMr3 => pack false 0xA003#16 0x00#8
  | .txRdW => pack false 0xA000#16 0x00#8
  | .txRdH => pack false 0xA001#16 0x00#8
  | .txRdM => pack false 0xA002#16 0x00#8
  | .txRdS => pack false 0xA003#16 0x00#8
  | .txWrW data => pack true 0xA000#16 data
  | .txWrH data => pack true 0xA001#16 data
  | .txWrM data => pack true 0xA002#16 data
  | .txWrS data => pack true 0xA003#16 data
  | .plainRamen data => pack true 0x0000#16 data
  | .plainIgnR1 data => pack true 0x2000#16 data
  | .plainIgnR23 data => pack true 0x4000#16 data
  | .mbc1Ramen data => pack true 0x0000#16 data
  | .mbc1Bank1 data => pack true 0x2000#16 data
  | .mbc1Bank2 data => pack true 0x4000#16 data
  | .mbc1Mode data => pack true 0x6000#16 data
  | .m64Ramen data => pack true 0x0000#16 data
  | .m64Bank1 data => pack true 0x2000#16 data
  | .m64Bank2 data => pack true 0x4000#16 data
  | .m64Mode data => pack true 0x6000#16 data
  | .mbc2Ramen data => pack true 0x0000#16 data
  | .mbc2Romb data => pack true 0x2100#16 data
  | .mbc2Ign0100 data => pack true 0x0100#16 data
  | .mbc2Ign2000 data => pack true 0x2000#16 data
  | .mbc2IgnHi data => pack true 0x4000#16 data
  | .mbc3Ramen data => pack true 0x0000#16 data
  | .mbc3Romb data => pack true 0x2000#16 data
  | .mbc3Ramb data => pack true 0x4000#16 data
  | .mbc3Latch data => pack true 0x6000#16 data
  | .huc1Ramen data => pack true 0x0000#16 data
  | .huc1Romb data => pack true 0x2000#16 data
  | .huc1Ramb data => pack true 0x4000#16 data
  | .huc1Mode data => pack true 0x6000#16 data
  | .mbc5Ramen data => pack true 0x0000#16 data
  | .mbc5Romb0 data => pack true 0x2000#16 data
  | .mbc5Romb1 data => pack true 0x3000#16 data
  | .mbc5Ramb data => pack true 0x4000#16 data
  | .mbc5Ign data => pack true 0x6000#16 data
  | .tpp1Mr0 data => pack true 0x0000#16 data
  | .tpp1Mr1 data => pack true 0x0001#16 data
  | .tpp1Mr2 data => pack true 0x0002#16 data
  | .tpp1Map0 => pack true 0x0003#16 0x00#8
  | .tpp1Map1 => pack true 0x0003#16 0x02#8
  | .tpp1Map2 => pack true 0x0003#16 0x03#8
  | .tpp1Map3 => pack true 0x0003#16 0x05#8
  | .tpp1Latch => pack true 0x0003#16 0x10#8
  | .tpp1Settime => pack true 0x0003#16 0x11#8
  | .tpp1Clrovf => pack true 0x0003#16 0x14#8
  | .tpp1Halt => pack true 0x0003#16 0x18#8
  | .tpp1Resume => pack true 0x0003#16 0x19#8
  | .tpp1Rumble level => pack true 0x0003#16 (0b001000#6 ++ level)
  | .tpp1Mr3ign code => pack true 0x0003#16 code
  | .tpp1Ign data => pack true 0x4000#16 data

/-! ## The opcode table (R136) -/

/-- A row of spec/opcode_table.json: its variant (`none` for ANY), `match` and `mask`. -/
structure Row where
  variant : Option Variant
  pattern : Word
  mask : Word
  deriving DecidableEq, Repr

/-- The row of the table a transaction is, its three columns copied from the table. -/
def Instr.row (i : Instr) : Row :=
  match i with
  | .rdRom0 _ => ⟨none, 0x0000000#25, 0x1C00000#25⟩
  | .rdRomx _ => ⟨none, 0x0400000#25, 0x1C00000#25⟩
  | .rdXram _ => ⟨none, 0x0A00000#25, 0x1E00000#25⟩
  | .wrXram _ _ => ⟨none, 0x1A00000#25, 0x1E00000#25⟩
  | .ext8000 _ _ _ => ⟨none, 0x0800000#25, 0x0E00000#25⟩
  | .extC000 _ _ _ => ⟨none, 0x0C00000#25, 0x0C00000#25⟩
  | .rtcRdS => ⟨some .mbc3, 0x0A00000#25, 0x1E00000#25⟩
  | .rtcRdM => ⟨some .mbc3, 0x0A00000#25, 0x1E00000#25⟩
  | .rtcRdH => ⟨some .mbc3, 0x0A00000#25, 0x1E00000#25⟩
  | .rtcRdDl => ⟨some .mbc3, 0x0A00000#25, 0x1E00000#25⟩
  | .rtcRdDh => ⟨some .mbc3, 0x0A00000#25, 0x1E00000#25⟩
  | .rtcWrS _ => ⟨some .mbc3, 0x1A00000#25, 0x1E00000#25⟩
  | .rtcWrM _ => ⟨some .mbc3, 0x1A00000#25, 0x1E00000#25⟩
  | .rtcWrH _ => ⟨some .mbc3, 0x1A00000#25, 0x1E00000#25⟩
  | .rtcWrDl _ => ⟨some .mbc3, 0x1A00000#25, 0x1E00000#25⟩
  | .rtcWrDh _ => ⟨some .mbc3, 0x1A00000#25, 0x1E00000#25⟩
  | .txRdMr0 => ⟨some .tpp1, 0x0A00000#25, 0x1E00300#25⟩
  | .txRdMr1 => ⟨some .tpp1, 0x0A00100#25, 0x1E00300#25⟩
  | .txRdMr2 => ⟨some .tpp1, 0x0A00200#25, 0x1E00300#25⟩
  | .txRdMr3 => ⟨some .tpp1, 0x0A00300#25, 0x1E00300#25⟩
  | .txRdW => ⟨some .tpp1, 0x0A00000#25, 0x1E00300#25⟩
  | .txRdH => ⟨some .tpp1, 0x0A00100#25, 0x1E00300#25⟩
  | .txRdM => ⟨some .tpp1, 0x0A00200#25, 0x1E00300#25⟩
  | .txRdS => ⟨some .tpp1, 0x0A00300#25, 0x1E00300#25⟩
  | .txWrW _ => ⟨some .tpp1, 0x1A00000#25, 0x1E00300#25⟩
  | .txWrH _ => ⟨some .tpp1, 0x1A00100#25, 0x1E00300#25⟩
  | .txWrM _ => ⟨some .tpp1, 0x1A00200#25, 0x1E00300#25⟩
  | .txWrS _ => ⟨some .tpp1, 0x1A00300#25, 0x1E00300#25⟩
  | .plainRamen _ => ⟨some .plain, 0x1000000#25, 0x1E00000#25⟩
  | .plainIgnR1 _ => ⟨some .plain, 0x1200000#25, 0x1E00000#25⟩
  | .plainIgnR23 _ => ⟨some .plain, 0x1400000#25, 0x1C00000#25⟩
  | .mbc1Ramen _ => ⟨some .mbc1, 0x1000000#25, 0x1E00000#25⟩
  | .mbc1Bank1 _ => ⟨some .mbc1, 0x1200000#25, 0x1E00000#25⟩
  | .mbc1Bank2 _ => ⟨some .mbc1, 0x1400000#25, 0x1E00000#25⟩
  | .mbc1Mode _ => ⟨some .mbc1, 0x1600000#25, 0x1E00000#25⟩
  | .m64Ramen _ => ⟨some .mbc1m64, 0x1000000#25, 0x1E00000#25⟩
  | .m64Bank1 _ => ⟨some .mbc1m64, 0x1200000#25, 0x1E00000#25⟩
  | .m64Bank2 _ => ⟨some .mbc1m64, 0x1400000#25, 0x1E00000#25⟩
  | .m64Mode _ => ⟨some .mbc1m64, 0x1600000#25, 0x1E00000#25⟩
  | .mbc2Ramen _ => ⟨some .mbc2, 0x1000000#25, 0x1E10000#25⟩
  | .mbc2Romb _ => ⟨some .mbc2, 0x1210000#25, 0x1E10000#25⟩
  | .mbc2Ign0100 _ => ⟨some .mbc2, 0x1010000#25, 0x1E10000#25⟩
  | .mbc2Ign2000 _ => ⟨some .mbc2, 0x1200000#25, 0x1E10000#25⟩
  | .mbc2IgnHi _ => ⟨some .mbc2, 0x1400000#25, 0x1C00000#25⟩
  | .mbc3Ramen _ => ⟨some .mbc3, 0x1000000#25, 0x1E00000#25⟩
  | .mbc3Romb _ => ⟨some .mbc3, 0x1200000#25, 0x1E00000#25⟩
  | .mbc3Ramb _ => ⟨some .mbc3, 0x1400000#25, 0x1E00000#25⟩
  | .mbc3Latch _ => ⟨some .mbc3, 0x1600000#25, 0x1E00000#25⟩
  | .huc1Ramen _ => ⟨some .huc1, 0x1000000#25, 0x1E00000#25⟩
  | .huc1Romb _ => ⟨some .huc1, 0x1200000#25, 0x1E00000#25⟩
  | .huc1Ramb _ => ⟨some .huc1, 0x1400000#25, 0x1E00000#25⟩
  | .huc1Mode _ => ⟨some .huc1, 0x1600000#25, 0x1E00000#25⟩
  | .mbc5Ramen _ => ⟨some .mbc5, 0x1000000#25, 0x1E00000#25⟩
  | .mbc5Romb0 _ => ⟨some .mbc5, 0x1200000#25, 0x1F00000#25⟩
  | .mbc5Romb1 _ => ⟨some .mbc5, 0x1300000#25, 0x1F00000#25⟩
  | .mbc5Ramb _ => ⟨some .mbc5, 0x1400000#25, 0x1E00000#25⟩
  | .mbc5Ign _ => ⟨some .mbc5, 0x1600000#25, 0x1E00000#25⟩
  | .tpp1Mr0 _ => ⟨some .tpp1, 0x1000000#25, 0x1C00300#25⟩
  | .tpp1Mr1 _ => ⟨some .tpp1, 0x1000100#25, 0x1C00300#25⟩
  | .tpp1Mr2 _ => ⟨some .tpp1, 0x1000200#25, 0x1C00300#25⟩
  | .tpp1Map0 => ⟨some .tpp1, 0x1000300#25, 0x1C003FF#25⟩
  | .tpp1Map1 => ⟨some .tpp1, 0x1000302#25, 0x1C003FF#25⟩
  | .tpp1Map2 => ⟨some .tpp1, 0x1000303#25, 0x1C003FF#25⟩
  | .tpp1Map3 => ⟨some .tpp1, 0x1000305#25, 0x1C003FF#25⟩
  | .tpp1Latch => ⟨some .tpp1, 0x1000310#25, 0x1C003FF#25⟩
  | .tpp1Settime => ⟨some .tpp1, 0x1000311#25, 0x1C003FF#25⟩
  | .tpp1Clrovf => ⟨some .tpp1, 0x1000314#25, 0x1C003FF#25⟩
  | .tpp1Halt => ⟨some .tpp1, 0x1000318#25, 0x1C003FF#25⟩
  | .tpp1Resume => ⟨some .tpp1, 0x1000319#25, 0x1C003FF#25⟩
  | .tpp1Rumble _ => ⟨some .tpp1, 0x1000320#25, 0x1C003FC#25⟩
  | .tpp1Mr3ign _ => ⟨some .tpp1, 0x1000300#25, 0x1C00300#25⟩
  | .tpp1Ign _ => ⟨some .tpp1, 0x1400000#25, 0x1C00000#25⟩

/-- The row's pattern selects the word: `t & mask == match` (R136). -/
def Row.selects (r : Row) (t : Word) : Bool := t &&& r.mask == r.pattern

/-- The configuration and state in which the row can be selected: its `variant` and `when` keys (R136). RD.XRAM and
WR.XRAM stand where no row with `when` replaces them. DEDUCED, log 18: `RTC.index` stands for `M.rambank - 8`. -/
def Instr.selectedBy (i : Instr) (m : DecodeMode) : Bool :=
  match i with
  | .rdRom0 _ => true
  | .rdRomx _ => true
  | .rdXram _ => !m.readsRtc && !m.readsTx 0#2 && !m.readsTx 3#2
  | .wrXram _ _ => !m.writesRtc && !m.writesTx
  | .ext8000 _ _ _ => true
  | .extC000 _ _ _ => true
  | .rtcRdS => m.readsRtc && m.reg == .s
  | .rtcRdM => m.readsRtc && m.reg == .m
  | .rtcRdH => m.readsRtc && m.reg == .h
  | .rtcRdDl => m.readsRtc && m.reg == .dl
  | .rtcRdDh => m.readsRtc && m.reg == .dh
  | .rtcWrS _ => m.writesRtc && m.reg == .s
  | .rtcWrM _ => m.writesRtc && m.reg == .m
  | .rtcWrH _ => m.writesRtc && m.reg == .h
  | .rtcWrDl _ => m.writesRtc && m.reg == .dl
  | .rtcWrDh _ => m.writesRtc && m.reg == .dh
  | .txRdMr0 => m.readsTx 0#2
  | .txRdMr1 => m.readsTx 0#2
  | .txRdMr2 => m.readsTx 0#2
  | .txRdMr3 => m.readsTx 0#2
  | .txRdW => m.readsTx 3#2
  | .txRdH => m.readsTx 3#2
  | .txRdM => m.readsTx 3#2
  | .txRdS => m.readsTx 3#2
  | .txWrW _ => m.writesTx
  | .txWrH _ => m.writesTx
  | .txWrM _ => m.writesTx
  | .txWrS _ => m.writesTx
  | .plainRamen _ => m.variant == .plain
  | .plainIgnR1 _ => m.variant == .plain
  | .plainIgnR23 _ => m.variant == .plain
  | .mbc1Ramen _ => m.variant == .mbc1
  | .mbc1Bank1 _ => m.variant == .mbc1
  | .mbc1Bank2 _ => m.variant == .mbc1
  | .mbc1Mode _ => m.variant == .mbc1
  | .m64Ramen _ => m.variant == .mbc1m64
  | .m64Bank1 _ => m.variant == .mbc1m64
  | .m64Bank2 _ => m.variant == .mbc1m64
  | .m64Mode _ => m.variant == .mbc1m64
  | .mbc2Ramen _ => m.variant == .mbc2
  | .mbc2Romb _ => m.variant == .mbc2
  | .mbc2Ign0100 _ => m.variant == .mbc2
  | .mbc2Ign2000 _ => m.variant == .mbc2
  | .mbc2IgnHi _ => m.variant == .mbc2
  | .mbc3Ramen _ => m.variant == .mbc3
  | .mbc3Romb _ => m.variant == .mbc3
  | .mbc3Ramb _ => m.variant == .mbc3
  | .mbc3Latch _ => m.variant == .mbc3
  | .huc1Ramen _ => m.variant == .huc1
  | .huc1Romb _ => m.variant == .huc1
  | .huc1Ramb _ => m.variant == .huc1
  | .huc1Mode _ => m.variant == .huc1
  | .mbc5Ramen _ => m.variant == .mbc5
  | .mbc5Romb0 _ => m.variant == .mbc5
  | .mbc5Romb1 _ => m.variant == .mbc5
  | .mbc5Ramb _ => m.variant == .mbc5
  | .mbc5Ign _ => m.variant == .mbc5
  | .tpp1Mr0 _ => m.variant == .tpp1
  | .tpp1Mr1 _ => m.variant == .tpp1
  | .tpp1Mr2 _ => m.variant == .tpp1
  | .tpp1Map0 => m.variant == .tpp1
  | .tpp1Map1 => m.variant == .tpp1
  | .tpp1Map2 => m.variant == .tpp1
  | .tpp1Map3 => m.variant == .tpp1
  | .tpp1Latch => m.variant == .tpp1
  | .tpp1Settime => m.variant == .tpp1
  | .tpp1Clrovf => m.variant == .tpp1
  | .tpp1Halt => m.variant == .tpp1
  | .tpp1Resume => m.variant == .tpp1
  | .tpp1Rumble _ => m.variant == .tpp1
  | .tpp1Mr3ign _ => m.variant == .tpp1
  | .tpp1Ign _ => m.variant == .tpp1

end Sys2Proof
end

