-- ==== Sys2Proof/Machine/State.lean ====
section
/-! DEFINITION. The state of the block as plain data (spec/10_state.md), the requests it is given and the answers it
gives (spec/00_scope.md R8, spec/60_exceptions.md), the reasons a step can stop, and the state after reset (R60). -/

namespace Sys2Proof.Machine

/-- Bytes of an image: (index, byte) pairs, indexes strictly rising, no byte equal to what an unlisted index reads as. -/
abbrev Memory := List Host.Cell

/-- What an unlisted byte of the ROM image reads as: "Bytes beyond the loaded file are padded with 0xFF" (R35). -/
def romBlank : Byte := 0xFF#8

/-- What an unlisted byte of the RAM image reads as: "zero-initialized at load" (R36). -/
def ramBlank : Byte := 0x00#8

/-- The mapper registers `M.*` (R22). -/
structure Mapper where
  rombank : RomBank
  rambank : RamBank
  enableRam : Bool
  ramBankMode : Bool
  mapmode : BitVec 2
  deriving DecidableEq, Repr

/-- The window pointers and access flags `W.*` (R30). -/
structure Windows where
  rom0 : RomBank
  rom : RomBank
  ram : RamBank
  re : Bool
  we : Bool
  rtcEn : Bool
  deriving DecidableEq, Repr

/-- The MBC3 clock `RTC.*` (R40). -/
structure Rtc where
  baseTime : Time
  haltTime : Time
  s : Byte
  m : Byte
  h : Byte
  dl : Byte
  dh : Byte
  lastLatch : Bool
  active : Bool
  index : RtcReg
  deriving DecidableEq, Repr

/-- The TPP1 extension `TX.*` (R45). -/
structure Tx where
  baseTime : Time
  haltTime : Time
  w : Byte
  h : Byte
  m : Byte
  s : Byte
  rumble : BitVec 2
  curmap : BitVec 2
  features : Byte
  enabled : Bool
  running : Bool
  overflow : Bool
  deriving DecidableEq, Repr

/-- The snapshot record (spec/60_exceptions.md R350): the mapper registers, both clocks, cartridge RAM. `origin` and
`originRom` are the model's own tags, the cartridge it was taken from, so that a restore into another one can be refused
(spec/93_implementation_defined.md U7; log 22). -/
structure Snapshot where
  mapper : Mapper
  rtc : Rtc
  tx : Tx
  ram : Memory
  origin : Cfg
  originRom : Memory
  deriving DecidableEq, Repr

/-- The arrays `get_memory_area` can name that belong to the block (spec/60_exceptions.md R355). -/
inductive Area where
  | rom | ram
  deriving DecidableEq, Repr

/-- The two errors of `load_rom` (spec/60_exceptions.md R338): E1 and E2. -/
inductive LoadError where
  | malformedHeader | unsupportedMapper
  deriving DecidableEq, Repr

/-- The host operations (spec/60_exceptions.md; spec/30_encoding.md R129: they have no bit encoding). -/
inductive HostOp where
  /-- `load_rom(bytes, force_dmg, multicart_compat)` (R330) -/
  | loadRom (bytes : List Byte) (forceDmg multicartCompat : Bool)
  /-- `load_savedata(bytes)` (R341) -/
  | loadSavedata (bytes : List Byte)
  /-- `save_savedata_length()` (R343) -/
  | savedataLength
  /-- `save_savedata(dest)` (R343) -/
  | saveSavedata
  /-- `save_state` (R351) -/
  | saveState
  /-- `load_state` then `sync_state` (R352) -/
  | loadState (snap : Snapshot)
  /-- `get_memory_area(id)` (R355) -/
  | getMemoryArea (id : Nat)
  /-- `can_map_bank_at(addr, bank)` (R356) -/
  | canMapBankAt (addr : Addr) (bank : Nat)
  /-- tear-down of the cartridge (R364) -/
  | tearDown
  deriving DecidableEq, Repr

/-- What reaches the block: one request is one step (spec/00_scope.md R8, R9; spec/20_memory.md R96). -/
inductive Request where
  /-- a bus transaction of the CPU -/
  | bus (t : Word)
  /-- a host operation -/
  | host (op : HostOp)
  /-- the host clock will answer `t` from now on (the script line NOW, spec/30_encoding.md R134; log 5) -/
  | clock (t : Time)
  deriving DecidableEq, Repr

/-- What the last request was answered. The model's own record of values the block hands out (log 4). -/
inductive Answer where
  /-- no request has been taken yet -/
  | none
  /-- completed, no value -/
  | done
  /-- the byte a bus read returns -/
  | byte (v : Byte)
  /-- not the block's transaction: the environment answers (spec/40_window_access.md R155; log 7) -/
  | external
  /-- `load_rom` succeeded; `cgb` is the flag it computes for the CPU side (spec/60_exceptions.md R330 step 5) -/
  | loaded (cgb : Bool)
  /-- `load_rom` failed; nothing else changed (R338, R339) -/
  | loadFailed (e : LoadError)
  /-- a number of bytes -/
  | length (n : Nat)
  /-- a save-data blob -/
  | savedata (bytes : List Byte)
  /-- a snapshot -/
  | snapshot (snap : Snapshot)
  /-- an array of the block: which, its bytes, its length -/
  | area (a : Area) (bytes : Memory) (length : Nat)
  /-- a truth value -/
  | bool (b : Bool)
  deriving DecidableEq, Repr

/-- The machine stops with a fault. The spec has no run-time fault (spec/60_exceptions.md R340); these two say that an
address the spec says does not exist was used, which no reachable state does (spec/10_state.md R32; log 11). -/
inductive Fault where
  /-- Raised by a window read at a ROM index at or beyond `rombanks * 0x4000`. Safe: no reachable state raises it. -/
  | romOutside (index : Nat)
  /-- Raised by a RAM-window access at a RAM index at or beyond `rambanks * 0x2000`. Safe: no reachable state raises it. -/
  | ramOutside (index : Nat)
  deriving DecidableEq, Repr

/-- No meaning for the request. Only host operations, or any request to a torn-down block, are refused. -/
inductive Refusal where
  /-- Raised by exec's arm of an instruction without a meaning; safe. No arm raises it. -/
  | notModelled (mnemonic : String)
  /-- Raised by any bus transaction or host operation but `load_rom` after tear-down: "no operation of this spec is
  defined until the next successful `load_rom`" (spec/60_exceptions.md R364). Safe. -/
  | tornDown
  /-- Raised by `load_savedata` with fewer bytes than `save_savedata_length()`: "Short blobs are undefined" (R342). Safe. -/
  | shortBlob
  /-- Raised by `load_state` with a snapshot of another cartridge (R350, U7: refuse). Safe. -/
  | foreignSnapshot
  /-- Raised by `get_memory_area` with id 0 or 2, arrays outside the block (R355). Safe. -/
  | areaOutsideBlock (id : Nat)
  /-- Raised by `get_memory_area` with an id the spec does not specify (R355: refuse). Safe. -/
  | areaUnspecified (id : Nat)
  deriving DecidableEq, Repr

/-- The state of the machine: the spec's state groups (R20), the configuration a load installs, and the model's own
fields (`live`, `hostNow`, `nowCalls`, `freeUses`, `queue`, `answer`; logs 1, 4, 5, 6, 10, 21). -/
structure State where
  cfg : Cfg
  mapper : Mapper
  win : Windows
  rom : Memory
  ram : Memory
  rtc : Rtc
  tx : Tx
  live : Bool
  hostNow : Time
  nowCalls : Nat
  freeUses : Nat
  queue : List Request
  answer : Answer
  deriving DecidableEq, Repr

/-- `M.*` after reset (R60). -/
def Mapper.reset : Mapper := ⟨1#16, 0#8, false, false, 0#2⟩

/-- `W.*` after reset, per variant (R60; spec/70_reset_and_hazards.md R371). -/
def Windows.reset (v : Variant) : Windows := ⟨0#16, 1#16, 0#8, v.resetRe, false, v.resetRtcEn⟩

/-- `RTC.*` after reset (R60). -/
def Rtc.reset : Rtc := ⟨0#32, 0#32, 0#8, 0#8, 0#8, 0#8, 0#8, false, false, .s⟩

/-- `TX.*` after reset (R60). -/
def Tx.reset (c : Cfg) : Tx :=
  ⟨0#32, 0#32, 0#8, 0#8, 0#8, 0#8, 0#2, 0#2, (if c.variant = .tpp1 then c.features else 0#8),
    decide (c.variant = .tpp1), c.txRunningReset, false⟩

/-- The state after reset, that is after loading the configuration `c` and the ROM image `rom`, as the table of R60
gives it, with nothing requested yet. -/
def State.resetFor (c : Cfg) (rom : Memory) : State where
  cfg := c
  mapper := Mapper.reset
  win := Windows.reset c.variant
  rom := rom
  ram := []
  rtc := Rtc.reset
  tx := Tx.reset c
  live := true
  hostNow := 0#32
  nowCalls := 0
  freeUses := 0
  queue := []
  answer := .none

/-- The state after reset. DESIGN CHOICE, log 2: the configuration is `Config.resetCfg`, the ROM image lists no byte. -/
def State.reset : State := State.resetFor Config.resetCfg []

end Sys2Proof.Machine
end

