-- ==== Sys2Proof/Machine/Operands.lean ====
section
/-! DEFINITION. Every operand form: how each operation cuts its operand from the datum (spec/30_encoding.md R128).
Nothing is sign-extended. -/

namespace Sys2Proof.Machine

/-- MBC1 and MBC1M64 BANK1: `data & 0x1F`. -/
def bankLow5 (data : Byte) : RomBank := (data &&& 0x1F#8).setWidth 16

/-- MBC1 BANK2 in ROM mode, MBC1M64 BANK2: `(data << 5) & 0x60`. -/
def bankHigh2 (data : Byte) : RomBank := (data.setWidth 16 <<< 5) &&& 0x60#16

/-- MBC1 BANK2 in RAM mode, HUC1 RAMB: `data & 3`. -/
def ramBankLow2 (data : Byte) : RamBank := data &&& 3#8

/-- MBC1, MBC1M64 and HUC1 MODE, MBC3 LATCH: `data & 1`. -/
def dataBit0 (data : Byte) : Bool := data.getLsbD 0

/-- MBC2 ROMB: `data & 0xF`. -/
def bankLow4 (data : Byte) : RomBank := (data &&& 0xF#8).setWidth 16

/-- MBC3 ROMB: `data & 0x7F`. -/
def bankLow7 (data : Byte) : RomBank := (data &&& 0x7F#8).setWidth 16

/-- HUC1 ROMB: `data & 0x3F`. -/
def bankLow6 (data : Byte) : RomBank := (data &&& 0x3F#8).setWidth 16

/-- MBC5 ROMB0, TPP1 MR0: `data`, to the low 8 bits of the bank. -/
def bankByte (data : Byte) : RomBank := data.setWidth 16

/-- MBC5 ROMB1: `(data << 8) & 0x100`. -/
def bankBit8 (data : Byte) : RomBank := (data.setWidth 16 <<< 8) &&& 0x100#16

/-- MBC5 RAMB: `data & 0xF`. -/
def ramBankLow4 (data : Byte) : RamBank := data &&& 0xF#8

/-- TPP1 MR1: `data << 8`, to the high 8 bits of the bank. -/
def bankHighByte (data : Byte) : RomBank := data.setWidth 16 <<< 8

end Sys2Proof.Machine
end

