-- ==== Sys2Proof/Machine/Flags.lean ====
section
/-! DEFINITION. Every flag computation and the bank functions several variants share (spec/00_scope.md R13,
spec/10_state.md R41, R47, spec/43_common_plain.md R231, R232, spec/44_mbc1_multi64.md R257). -/

namespace Sys2Proof.Machine

/-- `ram_enable_value(data) = ((data & 0xF) == 0xA)` (R13, R231). -/
def ramEnableValue (data : Byte) : Bool := data &&& 0xF#8 == 0xA#8

/-- `adjusted(bank) = ((bank & 0x1F) == 0) ? (bank | 1) : bank` (R232). -/
def adjusted (bank : RomBank) : RomBank := if bank &&& 0x1F#16 = 0#16 then bank ||| 1#16 else bank

/-- `toMulti64(r) = ((r >> 1) & 0x30) | (r & 0xF)` (R257). -/
def toMulti64 (r : RomBank) : RomBank := ((r >>> 1) &&& 0x30#16) ||| (r &&& 0xF#16)

/-- The MBC3 form of the adjusted rule: "zero becomes 1" (spec/46_mbc3.md R276). -/
def zeroToOne (bank : RomBank) : RomBank := if bank = 0#16 then 1#16 else bank

/-- `RTC.dh[0]`, bit 8 of the day counter (R41). PRESUMED by the spec itself (decision D17), log 13. -/
def dhDay8 (dh : Byte) : Bool := dh.getLsbD 0

/-- `RTC.dh[6]`, the halt flag (R41). Log 13. -/
def dhHalt (dh : Byte) : Bool := dh.getLsbD 6

/-- `RTC.dh[7]`, the carry flag (R41). Log 13. -/
def dhCarry (dh : Byte) : Bool := dh.getLsbD 7

/-- `RTC.dh` after a latch (spec/41_rtc_mbc3.md R173): bit 0 is replaced, bit 7 is set when a period was removed and
kept otherwise, bits 6:1 are kept. -/
def dhLatched (dh : Byte) (day8 carried : Bool) : Byte :=
  BitVec.ofBool (dhCarry dh || carried) ++ dh.extractLsb' 1 6 ++ BitVec.ofBool day8

/-- The TPP1 status byte `(TX.rumble & 3) | (TX.running << 2) | (TX.overflow << 3) | 0xF0` (R47). -/
def txStatus (x : Tx) : Byte :=
  x.rumble.setWidth 8 ||| ((BitVec.ofBool x.running).setWidth 8 <<< 2)
    ||| ((BitVec.ofBool x.overflow).setWidth 8 <<< 3) ||| 0xF0#8

/-- The MBC3 clock register the RAM bank value selects, `0x08` to `0x0C` (spec/41_rtc_mbc3.md R171; the numbers
`0x09` to `0x0C` are PRESUMED by the spec itself, decision D16, log 13). -/
def rtcRegOf (rambank : RamBank) : Option RtcReg :=
  if rambank = 0x08#8 then some .s
  else if rambank = 0x09#8 then some .m
  else if rambank = 0x0A#8 then some .h
  else if rambank = 0x0B#8 then some .dl
  else if rambank = 0x0C#8 then some .dh
  else none

end Sys2Proof.Machine
end

