-- ==== Sys2Proof/Machine/Ops.lean ====
section
/-! DEFINITION. The named operations over memory, windows, requests and the host clock that every meaning is built from.
There is no exception to take and none to return from: no bus transaction raises (spec/60_exceptions.md R340). -/

namespace Sys2Proof.Machine

/-- The outcome of one request. -/
abbrev Result := Host.Outcome State Fault Refusal

/-! ## Images -/

/-- The byte at index `i`; an unlisted one reads as `blank`. -/
def Memory.read (blank : Byte) : Memory → Nat → Byte
  | [], _ => blank
  | (k, v) :: rest, i => if k = i then v else Memory.read blank rest i

/-- The image with the byte at index `i` replaced, in canonical form. -/
def Memory.write (blank : Byte) : Memory → Nat → Byte → Memory
  | [], i, v => if v = blank then [] else [(i, v)]
  | (k, u) :: rest, i, v =>
    if k < i then (k, u) :: Memory.write blank rest i v
    else if k = i then (if v = blank then rest else (i, v) :: rest)
    else if v = blank then (k, u) :: rest
    else (i, v) :: (k, u) :: rest

/-- The image whose bytes from index `i` on are the given ones. -/
def Memory.ofBytes (blank : Byte) : Nat → List Byte → Memory
  | _, [] => []
  | i, b :: bs => if b = blank then Memory.ofBytes blank (i + 1) bs else (i, b) :: Memory.ofBytes blank (i + 1) bs

/-- The first `n` bytes of an image. -/
def Memory.toBytes (blank : Byte) (mem : Memory) (n : Nat) : List Byte :=
  (List.range n).map (Memory.read blank mem)

/-- Canonical form from index `lo` on. -/
def Memory.wfFrom (blank : Byte) : Nat → Memory → Bool
  | _, [] => true
  | lo, (k, v) :: rest => decide (lo ≤ k) && v != blank && Memory.wfFrom blank (k + 1) rest

/-- The canonical form: indexes strictly rising, no byte equal to what an unlisted index reads as. -/
def Memory.wf (blank : Byte) (mem : Memory) : Bool := Memory.wfFrom blank 0 mem

/-- Every listed index is below `n`. -/
def Memory.below (n : Nat) (mem : Memory) : Bool := mem.all fun c => decide (c.1 < n)

/-- Byte `i` of the ROM image (spec/10_state.md R35). -/
def romByte (i : Nat) (s : State) : Byte := Memory.read romBlank s.rom i

/-- Byte `i` of the RAM image (spec/10_state.md R36). -/
def ramByte (i : Nat) (s : State) : Byte := Memory.read ramBlank s.ram i

/-- `RAM[i] <- v`. -/
def setRamByte (i : Nat) (v : Byte) (s : State) : State := { s with ram := Memory.write ramBlank s.ram i v }

/-! ## Requests and answers -/

/-- The request is answered `a`. -/
def reply (a : Answer) (s : State) : State := { s with answer := a }

/-- A write or host operation without a value completes. -/
def complete (s : State) : Result := .next (reply .done s)

/-- A read completes and returns the byte `v`. -/
def returnByte (v : Byte) (s : State) : Result := .next (reply (.byte v) s)

/-- `ignore`: the transaction completes and no state changes (spec/00_scope.md R12, spec/43_common_plain.md R238). -/
def ignore (s : State) : Result := complete s

/-- What decoding reads from the state (spec/30_encoding.md R132). -/
def decodeMode (s : State) : DecodeMode :=
  ⟨s.cfg.variant, s.cfg.rtcWired, s.win.re, s.win.we, s.win.rtcEn, s.rtc.index, s.tx.curmap⟩

/-! ## The host clock -/

/-- The answer of `now()`: what the host clock says, 0 when there is none (spec/00_scope.md R10). -/
def now (s : State) : Time := if s.cfg.hostClock then s.hostNow else 0#32

/-- `now()` has been invoked once more (log 6). -/
def countNow (s : State) : State := { s with nowCalls := s.nowCalls + 1 }

/-- Whole periods are taken out of `tmp`, each moving the base time forward and raising the flag: the loop of
spec/41_rtc_mbc3.md R173 and spec/42_tpp1_extension.md R204. The first argument bounds the rounds. -/
def dropPeriods (period : Time) : Nat → Time → Time → Bool → Time × Time × Bool
  | 0, base, tmp, flag => (base, tmp, flag)
  | n + 1, base, tmp, flag =>
    if period ≤ tmp then dropPeriods period n (base + period) (tmp - period) true else (base, tmp, flag)

/-! ## Window primitives (spec/40_window_access.md R150 to R152, R158) -/

/-- `set_rombank(bank)` (R150). -/
def setRombank (bank : RomBank) (s : State) : State := { s with win := { s.win with rom := bank } }

/-- `set_rombank0(bank)` (R151). -/
def setRombank0 (bank : RomBank) (s : State) : State := { s with win := { s.win with rom0 := bank } }

/-- `set_rambank(flags, bank)`: all four fields are replaced (R152). -/
def setRambank (re we rtcEn : Bool) (bank : RamBank) (s : State) : State :=
  { s with win := { s.win with ram := bank, re := re, we := we, rtcEn := rtcEn } }

/-- `bank & (Cfg.rombanks - 1)`. -/
def romBankMask (bank : RomBank) (s : State) : RomBank := bank &&& BitVec.ofNat 16 (s.cfg.rombanks - 1)

/-- `ram_bank_eff(b)` (R158). -/
def ramBankEff (bank : RamBank) (s : State) : RamBank :=
  if s.cfg.rambanks = 0 then 0#8 else bank &&& BitVec.ofNat 8 (s.cfg.rambanks - 1)

/-- `b * 0x4000 + off` (spec/20_memory.md R82). -/
def romIndex (bank : RomBank) (off : BitVec 14) : Nat := bank.toNat * 0x4000 + off.toNat

/-- `b * 0x2000 + off` (spec/20_memory.md R83). -/
def ramIndex (bank : RamBank) (off : BitVec 13) : Nat := bank.toNat * 0x2000 + off.toNat

/-- A read of the ROM window aimed at `bank` (spec/20_memory.md R93). An index outside the image faults (log 11). -/
def readRom (bank : RomBank) (off : BitVec 14) (s : State) : Result :=
  if romIndex bank off < s.cfg.romSize then returnByte (romByte (romIndex bank off) s) s
  else .fault (.romOutside (romIndex bank off))

/-- The RAM path of a permitted read: `0xFF` without RAM, else the byte (spec/40_window_access.md R156). -/
def readRam (off : BitVec 13) (s : State) : Result :=
  if s.cfg.rambanks = 0 then returnByte 0xFF#8 s
  else if ramIndex s.win.ram off < s.cfg.ramSize then returnByte (ramByte (ramIndex s.win.ram off) s) s
  else .fault (.ramOutside (ramIndex s.win.ram off))

/-- The RAM path of a permitted write: ignored without RAM, else one byte is stored (spec/40_window_access.md R157). -/
def writeRam (off : BitVec 13) (data : Byte) (s : State) : Result :=
  if s.cfg.rambanks = 0 then ignore s
  else if ramIndex s.win.ram off < s.cfg.ramSize then complete (setRamByte (ramIndex s.win.ram off) data s)
  else .fault (.ramOutside (ramIndex s.win.ram off))

/-! ## Mapper register updates -/

/-- `M.rombank <- v`. -/
def setMRombank (v : RomBank) (s : State) : State := { s with mapper := { s.mapper with rombank := v } }

/-- `M.rambank <- v`. -/
def setMRambank (v : RamBank) (s : State) : State := { s with mapper := { s.mapper with rambank := v } }

/-- `M.enable_ram <- ((data & 0xF) == 0xA)` (spec/43_common_plain.md R231). -/
def setEnableRam (data : Byte) (s : State) : State :=
  { s with mapper := { s.mapper with enableRam := ramEnableValue data } }

/-- `M.ram_bank_mode <- data & 1`. -/
def setRamBankMode (data : Byte) (s : State) : State :=
  { s with mapper := { s.mapper with ramBankMode := dataBit0 data } }

/-- `M.mapmode <- k`. -/
def setMapmode (k : BitVec 2) (s : State) : State := { s with mapper := { s.mapper with mapmode := k } }

/-! ## Clock state updates -/

/-- The MBC3 clock is replaced. -/
def setRtc (r : Rtc) (s : State) : State := { s with rtc := r }

/-- The TPP1 extension is replaced. -/
def setTx (x : Tx) (s : State) : State := { s with tx := x }

/-- `RTC.set(enableRam, rambank)` (spec/41_rtc_mbc3.md R171): `enableRam` is accepted and not stored. -/
def rtcSelect (_enableRam : Bool) (rambank : RamBank) (s : State) : State :=
  setRtc { s.rtc with active := (rtcRegOf rambank).isSome, index := (rtcRegOf rambank).getD .s } s

/-- `TX.setmap(k)` (spec/42_tpp1_extension.md R210). -/
def txSetmap (k : BitVec 2) (s : State) : State := setTx { s.tx with curmap := k } s

end Sys2Proof.Machine
end

