-- ==== Sys2Proof/Machine/Aim.lean ====
section
/-! DEFINITION. The aim functions of the eight variants and `sync()` (spec/43_common_plain.md R230): the windows as a
function of the mapper registers. -/

namespace Sys2Proof.Machine

/-- The RAM window of the variants without a RAM bank register: bank 0, enabled by `M.enable_ram` (R234, R260). -/
def aimRamBank0 (s : State) : State :=
  setRambank s.mapper.enableRam s.mapper.enableRam false (ramBankEff 0#8 s) s

/-- The RAM window at bank `M.rambank`, enabled by `M.enable_ram` (R244, R290). -/
def aimRamBanked (s : State) : State :=
  setRambank s.mapper.enableRam s.mapper.enableRam false (ramBankEff s.mapper.rambank s) s

/-- Low window at bank 0, high window at `M.rombank & (Cfg.rombanks - 1)` (R234, R260, R290, R300). -/
def aimRomMasked (s : State) : State := setRombank (romBankMask s.mapper.rombank s) (setRombank0 0#16 s)

/-- `aim_rom()` of PLAIN (R234). -/
def aimRomPlain (s : State) : State := aimRomMasked s

/-- `aim_ram()` of PLAIN (R234). -/
def aimRamPlain (s : State) : State := aimRamBank0 s

/-- `aim_rom()` of MBC1: adjust, then mask (spec/44_mbc1_multi64.md R244). -/
def aimRomMbc1 (s : State) : State :=
  setRombank (romBankMask (adjusted s.mapper.rombank) s) (setRombank0 0#16 s)

/-- `aim_ram()` of MBC1 (R244). -/
def aimRamMbc1 (s : State) : State := aimRamBanked s

/-- `aim_rom()` of MBC1M64 (spec/44_mbc1_multi64.md R254). -/
def aimRomM64 (s : State) : State :=
  if s.mapper.ramBankMode then
    setRombank (adjusted (toMulti64 s.mapper.rombank)) (setRombank0 (toMulti64 s.mapper.rombank &&& 0x30#16) s)
  else setRombank (romBankMask (adjusted s.mapper.rombank) s) (setRombank0 0#16 s)

/-- `aim_ram()` of MBC1M64: bank 0 (R254). -/
def aimRamM64 (s : State) : State := setRambank s.mapper.enableRam s.mapper.enableRam false 0#8 s

/-- `aim_rom()` of MBC2 (spec/45_mbc2.md R260): no adjust. -/
def aimRomMbc2 (s : State) : State := aimRomMasked s

/-- `aim_ram()` of MBC2 (R260). -/
def aimRamMbc2 (s : State) : State := aimRamBank0 s

/-- `aim_rom()` of MBC3 (spec/46_mbc3.md R276): zero becomes 1, then mask. -/
def aimRomMbc3 (s : State) : State :=
  setRombank (romBankMask (zeroToOne s.mapper.rombank) s) (setRombank0 0#16 s)

/-- `aim_ram()` of MBC3 (R275): with an RTC the bank value also selects a clock register. -/
def aimRamMbc3 (s : State) : State :=
  if s.cfg.rtcWired then
    setRambank s.mapper.enableRam s.mapper.enableRam (rtcRegOf s.mapper.rambank).isSome (ramBankEff s.mapper.rambank s)
      (rtcSelect s.mapper.enableRam s.mapper.rambank s)
  else setRambank s.mapper.enableRam s.mapper.enableRam false (ramBankEff s.mapper.rambank s) s

/-- The HuC1 bank before the size mask: in mode 0 `M.rambank` supplies bits 7:6 (spec/47_huc1.md R280). -/
def huc1RomBank (m : Mapper) : RomBank :=
  if m.ramBankMode then m.rombank else (m.rambank.setWidth 16 <<< 6) ||| m.rombank

/-- `aim_rom()` of HUC1 (R280): no adjust. -/
def aimRomHuc1 (s : State) : State := setRombank (romBankMask (huc1RomBank s.mapper) s) (setRombank0 0#16 s)

/-- `aim_ram()` of HUC1 (R280): always readable; bank 0 in mode 0. -/
def aimRamHuc1 (s : State) : State :=
  setRambank true s.mapper.enableRam false (if s.mapper.ramBankMode then ramBankEff s.mapper.rambank s else 0#8) s

/-- `aim_rom()` of MBC5 (spec/48_mbc5.md R290): no adjust. -/
def aimRomMbc5 (s : State) : State := aimRomMasked s

/-- `aim_ram()` of MBC5 (R290). -/
def aimRamMbc5 (s : State) : State := aimRamBanked s

/-- `aim_rom()` of TPP1 (spec/49_tpp1.md R300): no adjust. -/
def aimRomTpp1 (s : State) : State := aimRomMasked s

/-- `Cfg.features & 4`: the TPP1 clock is present (spec/10_state.md R49). -/
def hasClockFeature (s : State) : Bool := s.cfg.features.getLsbD 2

/-- `aim_ram()` of TPP1 (R300): the four personalities of spec/42_tpp1_extension.md R215. -/
def aimRamTpp1 (s : State) : State :=
  if s.mapper.mapmode = 0#2 then setRambank true false true (ramBankEff s.mapper.rambank s) s
  else if s.mapper.mapmode = 1#2 then setRambank true false false (ramBankEff s.mapper.rambank s) s
  else if s.mapper.mapmode = 2#2 then setRambank true true false (ramBankEff s.mapper.rambank s) s
  else setRambank (hasClockFeature s) (hasClockFeature s) (hasClockFeature s) (ramBankEff s.mapper.rambank s) s

/-- `sync()` of the variant (R230, R300): the windows, and in MBC3 and TPP1 the clock selection, from the registers. -/
def sync (s : State) : State :=
  match s.cfg.variant with
  | .plain => aimRamPlain (aimRomPlain s)
  | .mbc1 => aimRamMbc1 (aimRomMbc1 s)
  | .mbc1m64 => aimRamM64 (aimRomM64 s)
  | .mbc2 => aimRamMbc2 (aimRomMbc2 s)
  | .mbc3 => aimRamMbc3 (aimRomMbc3 s)
  | .huc1 => aimRamHuc1 (aimRomHuc1 s)
  | .mbc5 => aimRamMbc5 (aimRomMbc5 s)
  | .tpp1 => aimRamTpp1 (aimRomTpp1 (txSetmap s.mapper.mapmode s))

end Sys2Proof.Machine
end

