-- ==== Sys2Proof/Machine/Huc1.lean ====
section
/-! DEFINITION. HuC1, spec/47_huc1.md. -/

namespace Sys2Proof.Machine

/-- HUC1.RAMEN (R281). -/
def execHuc1Ramen (data : Byte) (s : State) : Result := complete (aimRamHuc1 (setEnableRam data s))

/-- HUC1.ROMB (R282). -/
def execHuc1Romb (data : Byte) (s : State) : Result := complete (aimRomHuc1 (setMRombank (bankLow6 data) s))

/-- HUC1.RAMB (R283): one window is re-aimed, by the mode bit. -/
def execHuc1Ramb (data : Byte) (s : State) : Result :=
  if s.mapper.ramBankMode then complete (aimRamHuc1 (setMRambank (ramBankLow2 data) s))
  else complete (aimRomHuc1 (setMRambank (ramBankLow2 data) s))

/-- HUC1.MODE (R284): both windows are re-aimed. -/
def execHuc1Mode (data : Byte) (s : State) : Result := complete (aimRamHuc1 (aimRomHuc1 (setRamBankMode data s)))

end Sys2Proof.Machine
end

