-- ==== Sys2Proof/Machine/Mbc1.lean ====
section
/-! DEFINITION. MBC1 and MBC1-Multi64, spec/44_mbc1_multi64.md. -/

namespace Sys2Proof.Machine

/-- MBC1.RAMEN (R240). -/
def execMbc1Ramen (data : Byte) (s : State) : Result := complete (aimRamMbc1 (setEnableRam data s))

/-- The bank with its low five bits replaced and bits 6:5 kept. -/
def withBankLow5 (bank : RomBank) (data : Byte) : RomBank := (bank &&& 0x60#16) ||| bankLow5 data

/-- The bank with bits 6:5 replaced and the low five bits kept. -/
def withBankHigh2 (bank : RomBank) (data : Byte) : RomBank := bankHigh2 data ||| (bank &&& 0x1F#16)

/-- MBC1.BANK1 (R241): in RAM mode the write also clears `M.rombank[6:5]`. -/
def execMbc1Bank1 (data : Byte) (s : State) : Result :=
  complete (aimRomMbc1 (setMRombank
    (if s.mapper.ramBankMode then bankLow5 data else withBankLow5 s.mapper.rombank data) s))

/-- MBC1.BANK2 (R242): the mode bit says which register the datum feeds. -/
def execMbc1Bank2 (data : Byte) (s : State) : Result :=
  if s.mapper.ramBankMode then complete (aimRamMbc1 (setMRambank (ramBankLow2 data) s))
  else complete (aimRomMbc1 (setMRombank (withBankHigh2 s.mapper.rombank data) s))

/-- MBC1.MODE (R243): no window moves. -/
def execMbc1Mode (data : Byte) (s : State) : Result := complete (setRamBankMode data s)

/-- M64.RAMEN (R250). -/
def execM64Ramen (data : Byte) (s : State) : Result := complete (aimRamM64 (setEnableRam data s))

/-- M64.BANK1 (R251): the upper bits are always kept. -/
def execM64Bank1 (data : Byte) (s : State) : Result :=
  complete (aimRomM64 (setMRombank (withBankLow5 s.mapper.rombank data) s))

/-- M64.BANK2 (R252). -/
def execM64Bank2 (data : Byte) (s : State) : Result :=
  complete (aimRomM64 (setMRombank (withBankHigh2 s.mapper.rombank data) s))

/-- M64.MODE (R253): unlike MBC1.MODE it re-aims at once. -/
def execM64Mode (data : Byte) (s : State) : Result := complete (aimRomM64 (setRamBankMode data s))

end Sys2Proof.Machine
end

