-- ==== Sys2Proof/Machine/Mbc2.lean ====
section
/-! DEFINITION. MBC2, spec/45_mbc2.md. -/

namespace Sys2Proof.Machine

/-- MBC2.RAMEN (R261). -/
def execMbc2Ramen (data : Byte) (s : State) : Result := complete (aimRamMbc2 (setEnableRam data s))

/-- MBC2.ROMB (R262): no adjust. -/
def execMbc2Romb (data : Byte) (s : State) : Result := complete (aimRomMbc2 (setMRombank (bankLow4 data) s))

/-- MBC2.IGN, `addr & 0x6100 = 0x0100` (R263). -/
def execMbc2Ign0100 (_data : Byte) (s : State) : Result := ignore s

/-- MBC2.IGN, `addr & 0x6100 = 0x2000` (R263). -/
def execMbc2Ign2000 (_data : Byte) (s : State) : Result := ignore s

/-- MBC2.IGN, `addr >= 0x4000` (R263). -/
def execMbc2IgnHi (_data : Byte) (s : State) : Result := ignore s

end Sys2Proof.Machine
end

