-- ==== Sys2Proof/Machine/Rtc.lean ====
section
/-! DEFINITION. The MBC3 real-time clock (spec/41_rtc_mbc3.md): latch, register reads, register writes. The register
writes R176 to R180 and the layout of DH are supplied by the spec from general knowledge (decisions D17, D20; log 13). -/

namespace Sys2Proof.Machine

/-- `rtc_ref(t)` (R181): while halted, the frozen time. -/
def rtcRef (t : Time) (r : Rtc) : Time := if dhHalt r.dh then r.haltTime else t

/-- `rtc_elapsed(t)` (R181), modulo `2^32`. -/
def rtcElapsed (t : Time) (r : Rtc) : Time := rtcRef t r - r.baseTime

/-- `P = 512 * 86400` (R173). -/
def rtcPeriod : Time := 44236800#32

/-- The clock after the periods are taken out and the rest is split into the five registers (R173). -/
def rtcDecompose (r : Rtc) (p : Time × Time × Bool) : Rtc :=
  { r with
    baseTime := p.1
    s := BitVec.ofNat 8 (p.2.1.toNat % 60)
    m := BitVec.ofNat 8 (p.2.1.toNat % 3600 / 60)
    h := BitVec.ofNat 8 (p.2.1.toNat % 86400 / 3600)
    dl := BitVec.ofNat 8 (p.2.1.toNat / 86400)
    dh := dhLatched r.dh (p.2.1.toNat / 86400 / 256 % 2 == 1) p.2.2 }

/-- The latch arithmetic of R173 at the time `t`; "The loop runs at most 97 times." -/
def rtcLatchAt (t : Time) (r : Rtc) : Rtc :=
  rtcDecompose r (dropPeriods rtcPeriod 97 r.baseTime (rtcElapsed t r) false)

/-- `do_latch()` (R173): `now()` is drawn only if the clock runs. -/
def rtcDoLatch (s : State) : State :=
  setRtc (rtcLatchAt (now s) s.rtc) (if dhHalt s.rtc.dh then s else countNow s)

/-- `RTC.last_latch <- data[0]`. -/
def setLastLatch (data : Byte) (s : State) : State := setRtc { s.rtc with lastLatch := dataBit0 data } s

/-- `RTC.latch(data)` (R172): latches on the 0 to 1 transition of bit 0. -/
def rtcLatch (data : Byte) (s : State) : State :=
  setLastLatch data (if !s.rtc.lastLatch && dataBit0 data then rtcDoLatch s else s)

/-- `RTC.read()` (R174): the latched copy of the selected register. -/
def rtcRead (r : Rtc) : Byte :=
  match r.index with
  | .s => r.s
  | .m => r.m
  | .h => r.h
  | .dl => r.dl
  | .dh => r.dh

/-- The elapsed seconds a register write starts from. -/
def rtcSeconds (s : State) : Nat := (rtcElapsed (now s) s.rtc).toNat

/-- The base time moved so that a field worth `old` seconds is worth `new` seconds (R176 to R180). -/
def rebase (base : Time) (old new : Nat) : Time := base + seconds old - seconds new

/-- RTC.WR.S (R176). -/
def rtcWriteS (data : Byte) (s : State) : State :=
  setRtc { s.rtc with baseTime := rebase s.rtc.baseTime (rtcSeconds s % 60) data.toNat, s := data } (countNow s)

/-- RTC.WR.M (R177). -/
def rtcWriteM (data : Byte) (s : State) : State :=
  setRtc { s.rtc with
    baseTime := rebase s.rtc.baseTime (rtcSeconds s / 60 % 60 * 60) (data.toNat * 60), m := data } (countNow s)

/-- RTC.WR.H (R178). -/
def rtcWriteH (data : Byte) (s : State) : State :=
  setRtc { s.rtc with
    baseTime := rebase s.rtc.baseTime (rtcSeconds s / 3600 % 24 * 3600) (data.toNat * 3600), h := data } (countNow s)

/-- RTC.WR.DL (R179). -/
def rtcWriteDl (data : Byte) (s : State) : State :=
  setRtc { s.rtc with
    baseTime := rebase s.rtc.baseTime (rtcSeconds s / 86400 % 256 * 86400) (data.toNat * 86400), dl := data }
    (countNow s)

/-- The day-bit part of a DH write, before the halt transition (R180): `old_hi` is bit 8 of the running day count. -/
def rtcDayBit (data : Byte) (s : State) : Time :=
  rebase s.rtc.baseTime (rtcSeconds s / 86400 / 256 % 2 * 256 * 86400) ((dataBit0 data).toNat * 256 * 86400)

/-- RTC.WR.DH (R180): the day bit, then halt or resume when bit 6 changes, then the stored byte. -/
def rtcWriteDh (data : Byte) (s : State) : State :=
  setRtc { s.rtc with
    baseTime :=
      if dhHalt s.rtc.dh && !dhHalt data then rtcDayBit data s + (now s - s.rtc.haltTime) else rtcDayBit data s
    haltTime := if !dhHalt s.rtc.dh && dhHalt data then now s else s.rtc.haltTime
    dh := data } (countNow s)

/-- `RTC.write(data)` (R175): to the selected register. -/
def rtcWrite (data : Byte) (s : State) : State :=
  match s.rtc.index with
  | .s => rtcWriteS data s
  | .m => rtcWriteM data s
  | .h => rtcWriteH data s
  | .dl => rtcWriteDl data s
  | .dh => rtcWriteDh data s

/-- `RTC.setBaseTime(v)` (R182). -/
def rtcSetBaseTime (v : Time) (s : State) : State := setRtc { s.rtc with baseTime := v } s

/-! ## The operations -/

/-- RTC.RD.S (R174). -/
def execRtcRdS (s : State) : Result := returnByte s.rtc.s s

/-- RTC.RD.M (R174). -/
def execRtcRdM (s : State) : Result := returnByte s.rtc.m s

/-- RTC.RD.H (R174). -/
def execRtcRdH (s : State) : Result := returnByte s.rtc.h s

/-- RTC.RD.DL (R174). -/
def execRtcRdDl (s : State) : Result := returnByte s.rtc.dl s

/-- RTC.RD.DH (R174). -/
def execRtcRdDh (s : State) : Result := returnByte s.rtc.dh s

/-- RTC.WR.S (R176). -/
def execRtcWrS (data : Byte) (s : State) : Result := complete (rtcWriteS data s)

/-- RTC.WR.M (R177). -/
def execRtcWrM (data : Byte) (s : State) : Result := complete (rtcWriteM data s)

/-- RTC.WR.H (R178). -/
def execRtcWrH (data : Byte) (s : State) : Result := complete (rtcWriteH data s)

/-- RTC.WR.DL (R179). -/
def execRtcWrDl (data : Byte) (s : State) : Result := complete (rtcWriteDl data s)

/-- RTC.WR.DH (R180). -/
def execRtcWrDh (data : Byte) (s : State) : Result := complete (rtcWriteDh data s)

end Sys2Proof.Machine
end

