-- ==== Sys2Proof/Machine/Mbc3.lean ====
section
/-! DEFINITION. MBC3, spec/46_mbc3.md. -/

namespace Sys2Proof.Machine

/-- MBC3.RAMEN (R271). -/
def execMbc3Ramen (data : Byte) (s : State) : Result := complete (aimRamMbc3 (setEnableRam data s))

/-- MBC3.ROMB (R272): the value is stored unadjusted. -/
def execMbc3Romb (data : Byte) (s : State) : Result := complete (aimRomMbc3 (setMRombank (bankLow7 data) s))

/-- MBC3.RAMB (R273): all eight bits. -/
def execMbc3Ramb (data : Byte) (s : State) : Result := complete (aimRamMbc3 (setMRambank data s))

/-- MBC3.LATCH (R274): ignored without an RTC. -/
def execMbc3Latch (data : Byte) (s : State) : Result :=
  if s.cfg.rtcWired then complete (rtcLatch data s) else ignore s

end Sys2Proof.Machine
end

