-- ==== Sys2Proof/Machine/Mbc5.lean ====
section
/-! DEFINITION. MBC5, spec/48_mbc5.md. -/

namespace Sys2Proof.Machine

/-- MBC5.RAMEN (R291). -/
def execMbc5Ramen (data : Byte) (s : State) : Result := complete (aimRamMbc5 (setEnableRam data s))

/-- MBC5.ROMB0 (R292): `(rombank & 0x100) | data`. -/
def execMbc5Romb0 (data : Byte) (s : State) : Result :=
  complete (aimRomMbc5 (setMRombank ((s.mapper.rombank &&& 0x100#16) ||| bankByte data) s))

/-- MBC5.ROMB1 (R293): `((data << 8) & 0x100) | (rombank & 0xFF)`. -/
def execMbc5Romb1 (data : Byte) (s : State) : Result :=
  complete (aimRomMbc5 (setMRombank (bankBit8 data ||| (s.mapper.rombank &&& 0xFF#16)) s))

/-- MBC5.RAMB (R294). -/
def execMbc5Ramb (data : Byte) (s : State) : Result := complete (aimRamMbc5 (setMRambank (ramBankLow4 data) s))

/-- MBC5.IGN (R295). -/
def execMbc5Ign (_data : Byte) (s : State) : Result := ignore s

end Sys2Proof.Machine
end

