-- ==== Sys2Proof/Machine/Plain.lean ====
section
/-! DEFINITION. PLAIN (MBC0), spec/43_common_plain.md. -/

namespace Sys2Proof.Machine

/-- PLAIN.RAMEN (R235). -/
def execPlainRamen (data : Byte) (s : State) : Result := complete (aimRamPlain (setEnableRam data s))

/-- PLAIN.IGN in region 1 (R236). -/
def execPlainIgnR1 (_data : Byte) (s : State) : Result := ignore s

/-- PLAIN.IGN in regions 2 and 3 (R236). -/
def execPlainIgnR23 (_data : Byte) (s : State) : Result := ignore s

end Sys2Proof.Machine
end

