-- ==== Sys2Proof/Machine/Tx.lean ====
section
/-! DEFINITION. The TPP1 extension TX (spec/42_tpp1_extension.md): register window, clock, rumble. -/

namespace Sys2Proof.Machine

/-- `tx_ref(t)` (R211): while halted, the frozen time. -/
def txRef (t : Time) (x : Tx) : Time := if x.running then t else x.haltTime

/-- `tx_elapsed(t)` (R211), modulo `2^32`. -/
def txElapsed (t : Time) (x : Tx) : Time := txRef t x - x.baseTime

/-- `Q = 256 * 604800` (R204). -/
def txPeriod : Time := 154828800#32

/-- The clock after the periods are taken out and the rest is split into W, H, M, S (R204). -/
def txDecompose (x : Tx) (p : Time × Time × Bool) : Tx :=
  { x with
    baseTime := p.1
    w := BitVec.ofNat 8 (p.2.1.toNat / 604800)
    h := BitVec.ofNat 3 (p.2.1.toNat % 604800 / 86400) ++ BitVec.ofNat 5 (p.2.1.toNat % 86400 / 3600)
    m := BitVec.ofNat 8 (p.2.1.toNat % 3600 / 60)
    s := BitVec.ofNat 8 (p.2.1.toNat % 60)
    overflow := p.2.2 }

/-- The latch arithmetic of R204 at the time `t`; "The loop runs at most 27 times." -/
def txLatchAt (t : Time) (x : Tx) : Tx :=
  txDecompose x (dropPeriods txPeriod 27 x.baseTime (txElapsed t x) x.overflow)

/-- `now()` is drawn only if the TPP1 clock runs (R204, R205). -/
def countNowIfRunning (s : State) : State := if s.tx.running then countNow s else s

/-- `TX.latch()` (R204). -/
def txLatch (s : State) : State := setTx (txLatchAt (now s) s.tx) (countNowIfRunning s)

/-- The seconds the W, H, M, S bytes stand for, taken arithmetically (R205). -/
def txSeconds (x : Tx) : Nat :=
  x.w.toNat * 604800 + (x.h.extractLsb' 5 3).toNat * 86400 + (x.h.extractLsb' 0 5).toNat * 3600
    + x.m.toNat * 60 + x.s.toNat

/-- `TX.settime()` (R205). -/
def txSettime (s : State) : State :=
  setTx { s.tx with baseTime := txRef (now s) s.tx - seconds (txSeconds s.tx) } (countNowIfRunning s)

/-- `TX.halt()`: only while running (R206). -/
def txHalt (s : State) : State :=
  if s.tx.running then setTx { s.tx with haltTime := now s, running := false } (countNow s) else s

/-- `TX.resume()`: only while halted (R207). -/
def txResume (s : State) : State :=
  if s.tx.running then s
  else setTx { s.tx with baseTime := s.tx.baseTime + (now s - s.tx.haltTime), running := true } (countNow s)

/-- `TX.clear_overflow()` (R208). -/
def txClearOverflow (s : State) : State := setTx { s.tx with overflow := false } s

/-- `TX.setRumble(v)` (R209). -/
def txSetRumble (level : BitVec 2) (s : State) : State := setTx { s.tx with rumble := level } s

/-- `TX.setBaseTime(v)` (R213): the parameter is stored. -/
def txSetBaseTime (v : Time) (s : State) : State := setTx { s.tx with baseTime := v } s

/-- MR0 to MR3 as the register window shows them (R201). -/
def txReadMr (k : BitVec 2) (s : State) : Byte :=
  if k = 0#2 then s.mapper.rombank.extractLsb' 0 8
  else if k = 1#2 then s.mapper.rombank.extractLsb' 8 8
  else if k = 2#2 then s.mapper.rambank
  else txStatus s.tx

/-- W, H, M, S as the register window shows them (R202). -/
def txReadClock (k : BitVec 2) (s : State) : Byte :=
  if k = 0#2 then s.tx.w else if k = 1#2 then s.tx.h else if k = 2#2 then s.tx.m else s.tx.s

/-- `TX.read(p)` (R200): `none` where "Other curmap values fall through to RAM (handled in MP)" (log 20). -/
def txRead (k : BitVec 2) (s : State) : Option Byte :=
  if s.tx.curmap = 0#2 then some (txReadMr k s)
  else if s.tx.curmap = 3#2 then some (txReadClock k s)
  else none

/-- `TX.w <- d`. -/
def txWriteW (data : Byte) (s : State) : State := setTx { s.tx with w := data } s

/-- `TX.h <- d`. -/
def txWriteH (data : Byte) (s : State) : State := setTx { s.tx with h := data } s

/-- `TX.m <- d`. -/
def txWriteM (data : Byte) (s : State) : State := setTx { s.tx with m := data } s

/-- `TX.s <- d`. -/
def txWriteS (data : Byte) (s : State) : State := setTx { s.tx with s := data } s

/-- `TX.write(p, d)` (R203): "only accepted when `curmap==3`". -/
def txWrite (k : BitVec 2) (data : Byte) (s : State) : State :=
  if s.tx.curmap = 3#2 then
    (if k = 0#2 then txWriteW data s else if k = 1#2 then txWriteH data s else if k = 2#2 then txWriteM data s
      else txWriteS data s)
  else s

/-! ## The operations -/

/-- TX.RD.MR0 (R201). -/
def execTxRdMr0 (s : State) : Result := returnByte (txReadMr 0#2 s) s

/-- TX.RD.MR1 (R201). -/
def execTxRdMr1 (s : State) : Result := returnByte (txReadMr 1#2 s) s

/-- TX.RD.MR2 (R201). -/
def execTxRdMr2 (s : State) : Result := returnByte (txReadMr 2#2 s) s

/-- TX.RD.MR3 (R201): the status byte. -/
def execTxRdMr3 (s : State) : Result := returnByte (txReadMr 3#2 s) s

/-- TX.RD.W (R202). -/
def execTxRdW (s : State) : Result := returnByte (txReadClock 0#2 s) s

/-- TX.RD.H (R202). -/
def execTxRdH (s : State) : Result := returnByte (txReadClock 1#2 s) s

/-- TX.RD.M (R202). -/
def execTxRdM (s : State) : Result := returnByte (txReadClock 2#2 s) s

/-- TX.RD.S (R202). -/
def execTxRdS (s : State) : Result := returnByte (txReadClock 3#2 s) s

/-- TX.WR.W (R203). -/
def execTxWrW (data : Byte) (s : State) : Result := complete (txWrite 0#2 data s)

/-- TX.WR.H (R203). -/
def execTxWrH (data : Byte) (s : State) : Result := complete (txWrite 1#2 data s)

/-- TX.WR.M (R203). -/
def execTxWrM (data : Byte) (s : State) : Result := complete (txWrite 2#2 data s)

/-- TX.WR.S (R203). -/
def execTxWrS (data : Byte) (s : State) : Result := complete (txWrite 3#2 data s)

end Sys2Proof.Machine
end

