-- ==== Sys2Proof/Machine/Tpp1.lean ====
section
/-! DEFINITION. The TPP1 mapper registers and the commands of MR3, spec/49_tpp1.md. -/

namespace Sys2Proof.Machine

/-- TPP1.MR0 (R301): `(M.rombank & 0xFF00) | data`. -/
def execTpp1Mr0 (data : Byte) (s : State) : Result :=
  complete (aimRomTpp1 (setMRombank ((s.mapper.rombank &&& 0xFF00#16) ||| bankByte data) s))

/-- TPP1.MR1 (R302): `(data << 8) | (M.rombank & 0x00FF)`. -/
def execTpp1Mr1 (data : Byte) (s : State) : Result :=
  complete (aimRomTpp1 (setMRombank (bankHighByte data ||| (s.mapper.rombank &&& 0x00FF#16)) s))

/-- TPP1.MR2 (R303). -/
def execTpp1Mr2 (data : Byte) (s : State) : Result := complete (aimRamTpp1 (setMRambank data s))

/-- The map mode commands set `mapmode`, "update TX's `curmap`" and re-aim the RAM window (R304 to R307). -/
def setMode (k : BitVec 2) (s : State) : State := aimRamTpp1 (txSetmap k (setMapmode k s))

/-- TPP1.MAP0 (R304). -/
def execTpp1Map0 (s : State) : Result := complete (setMode 0#2 s)

/-- TPP1.MAP1 (R305). -/
def execTpp1Map1 (s : State) : Result := complete (setMode 1#2 s)

/-- TPP1.MAP2 (R306). -/
def execTpp1Map2 (s : State) : Result := complete (setMode 2#2 s)

/-- TPP1.MAP3 (R307). -/
def execTpp1Map3 (s : State) : Result := complete (setMode 3#2 s)

/-- TPP1.LATCH (R308). -/
def execTpp1Latch (s : State) : Result := complete (txLatch s)

/-- TPP1.SETTIME (R309). -/
def execTpp1Settime (s : State) : Result := complete (txSettime s)

/-- TPP1.CLROVF (R310). -/
def execTpp1Clrovf (s : State) : Result := complete (txClearOverflow s)

/-- TPP1.HALT (R311). -/
def execTpp1Halt (s : State) : Result := complete (txHalt s)

/-- TPP1.RESUME (R312). -/
def execTpp1Resume (s : State) : Result := complete (txResume s)

/-- TPP1.RUMBLE (R313). -/
def execTpp1Rumble (level : BitVec 2) (s : State) : Result := complete (txSetRumble level s)

/-- TPP1.MR3IGN (R315). -/
def execTpp1Mr3ign (_code : Byte) (s : State) : Result := ignore s

/-- TPP1.IGN (R314). -/
def execTpp1Ign (_data : Byte) (s : State) : Result := ignore s

end Sys2Proof.Machine
end

