-- ==== Sys2Proof/Machine/Window.lean ====
section
/-! DEFINITION. Window access in every variant (spec/40_window_access.md R153 to R157). -/

namespace Sys2Proof.Machine

/-- `addr & 3` of an offset in the RAM window. -/
def offLow2 (off : BitVec 13) : BitVec 2 := off.extractLsb' 0 2

/-- RD.ROM0 (R153). -/
def execRdRom0 (off : BitVec 14) (s : State) : Result := readRom s.win.rom0 off s

/-- RD.ROMX (R154). -/
def execRdRomx (off : BitVec 14) (s : State) : Result := readRom s.win.rom off s

/-- The clock path of a permitted read (R156): TX in TPP1, the MBC3 RTC otherwise. -/
def readClockPath (off : BitVec 13) (s : State) : Result :=
  if s.cfg.variant = .tpp1 then
    (match txRead (offLow2 off) s with
      | some v => returnByte v s
      | none => readRam off s)
  else returnByte (rtcRead s.rtc) s

/-- RD.XRAM (R156): the permission flag, then the clock path, then RAM. -/
def execRdXram (off : BitVec 13) (s : State) : Result :=
  if !s.win.re then returnByte 0xFF#8 s
  else if s.win.rtcEn then readClockPath off s
  else readRam off s

/-- The clock path of a permitted write (R157). -/
def writeClockPath (off : BitVec 13) (data : Byte) (s : State) : Result :=
  if s.cfg.variant = .tpp1 then complete (txWrite (offLow2 off) data s) else complete (rtcWrite data s)

/-- WR.XRAM (R157). -/
def execWrXram (off : BitVec 13) (data : Byte) (s : State) : Result :=
  if !s.win.we then ignore s
  else if s.win.rtcEn then writeClockPath off data s
  else writeRam off data s

/-- EXT.8000 (R155): the block changes no state and returns nothing; the environment answers (log 7). -/
def execExt8000 (_write : Bool) (_off : BitVec 13) (_data : Byte) (s : State) : Result := .next (reply .external s)

/-- EXT.C000 (R155): the block changes no state and returns nothing; the environment answers (log 7). -/
def execExtC000 (_write : Bool) (_off : BitVec 14) (_data : Byte) (s : State) : Result := .next (reply .external s)

end Sys2Proof.Machine
end

