-- ==== Sys2Proof/Machine/Dispatch.lean ====
section
/-! DEFINITION. The meaning of every bus transaction: one arm per constructor of `Instr`. -/

namespace Sys2Proof.Machine

def exec (i : Instr) (s : State) : Host.Outcome State Fault Refusal :=
  match i with
  | .rdRom0 off => Sys2Proof.Machine.execRdRom0 off s
  | .rdRomx off => Sys2Proof.Machine.execRdRomx off s
  | .rdXram off => Sys2Proof.Machine.execRdXram off s
  | .wrXram off data => Sys2Proof.Machine.execWrXram off data s
  | .ext8000 write off data => Sys2Proof.Machine.execExt8000 write off data s
  | .extC000 write off data => Sys2Proof.Machine.execExtC000 write off data s
  | .rtcRdS => Sys2Proof.Machine.execRtcRdS s
  | .rtcRdM => Sys2Proof.Machine.execRtcRdM s
  | .rtcRdH => Sys2Proof.Machine.execRtcRdH s
  | .rtcRdDl => Sys2Proof.Machine.execRtcRdDl s
  | .rtcRdDh => Sys2Proof.Machine.execRtcRdDh s
  | .rtcWrS data => Sys2Proof.Machine.execRtcWrS data s
  | .rtcWrM data => Sys2Proof.Machine.execRtcWrM data s
  | .rtcWrH data => Sys2Proof.Machine.execRtcWrH data s
  | .rtcWrDl data => Sys2Proof.Machine.execRtcWrDl data s
  | .rtcWrDh data => Sys2Proof.Machine.execRtcWrDh data s
  | .txRdMr0 => Sys2Proof.Machine.execTxRdMr0 s
  | .txRdMr1 => Sys2Proof.Machine.execTxRdMr1 s
  | .txRdMr2 => Sys2Proof.Machine.execTxRdMr2 s
  | .txRdMr3 => Sys2Proof.Machine.execTxRdMr3 s
  | .txRdW => Sys2Proof.Machine.execTxRdW s
  | .txRdH => Sys2Proof.Machine.execTxRdH s
  | .txRdM => Sys2Proof.Machine.execTxRdM s
  | .txRdS => Sys2Proof.Machine.execTxRdS s
  | .txWrW data => Sys2Proof.Machine.execTxWrW data s
  | .txWrH data => Sys2Proof.Machine.execTxWrH data s
  | .txWrM data => Sys2Proof.Machine.execTxWrM data s
  | .txWrS data => Sys2Proof.Machine.execTxWrS data s
  | .plainRamen data => Sys2Proof.Machine.execPlainRamen data s
  | .plainIgnR1 data => Sys2Proof.Machine.execPlainIgnR1 data s
  | .plainIgnR23 data => Sys2Proof.Machine.execPlainIgnR23 data s
  | .mbc1Ramen data => Sys2Proof.Machine.execMbc1Ramen data s
  | .mbc1Bank1 data => Sys2Proof.Machine.execMbc1Bank1 data s
  | .mbc1Bank2 data => Sys2Proof.Machine.execMbc1Bank2 data s
  | .mbc1Mode data => Sys2Proof.Machine.execMbc1Mode data s
  | .m64Ramen data => Sys2Proof.Machine.execM64Ramen data s
  | .m64Bank1 data => Sys2Proof.Machine.execM64Bank1 data s
  | .m64Bank2 data => Sys2Proof.Machine.execM64Bank2 data s
  | .m64Mode data => Sys2Proof.Machine.execM64Mode data s
  | .mbc2Ramen data => Sys2Proof.Machine.execMbc2Ramen data s
  | .mbc2Romb data => Sys2Proof.Machine.execMbc2Romb data s
  | .mbc2Ign0100 data => Sys2Proof.Machine.execMbc2Ign0100 data s
  | .mbc2Ign2000 data => Sys2Proof.Machine.execMbc2Ign2000 data s
  | .mbc2IgnHi data => Sys2Proof.Machine.execMbc2IgnHi data s
  | .mbc3Ramen data => Sys2Proof.Machine.execMbc3Ramen data s
  | .mbc3Romb data => Sys2Proof.Machine.execMbc3Romb data s
  | .mbc3Ramb data => Sys2Proof.Machine.execMbc3Ramb data s
  | .mbc3Latch data => Sys2Proof.Machine.execMbc3Latch data s
  | .huc1Ramen data => Sys2Proof.Machine.execHuc1Ramen data s
  | .huc1Romb data => Sys2Proof.Machine.execHuc1Romb data s
  | .huc1Ramb data => Sys2Proof.Machine.execHuc1Ramb data s
  | .huc1Mode data => Sys2Proof.Machine.execHuc1Mode data s
  | .mbc5Ramen data => Sys2Proof.Machine.execMbc5Ramen data s
  | .mbc5Romb0 data => Sys2Proof.Machine.execMbc5Romb0 data s
  | .mbc5Romb1 data => Sys2Proof.Machine.execMbc5Romb1 data s
  | .mbc5Ramb data => Sys2Proof.Machine.execMbc5Ramb data s
  | .mbc5Ign data => Sys2Proof.Machine.execMbc5Ign data s
  | .tpp1Mr0 data => Sys2Proof.Machine.execTpp1Mr0 data s
  | .tpp1Mr1 data => Sys2Proof.Machine.execTpp1Mr1 data s
  | .tpp1Mr2 data => Sys2Proof.Machine.execTpp1Mr2 data s
  | .tpp1Map0 => Sys2Proof.Machine.execTpp1Map0 s
  | .tpp1Map1 => Sys2Proof.Machine.execTpp1Map1 s
  | .tpp1Map2 => Sys2Proof.Machine.execTpp1Map2 s
  | .tpp1Map3 => Sys2Proof.Machine.execTpp1Map3 s
  | .tpp1Latch => Sys2Proof.Machine.execTpp1Latch s
  | .tpp1Settime => Sys2Proof.Machine.execTpp1Settime s
  | .tpp1Clrovf => Sys2Proof.Machine.execTpp1Clrovf s
  | .tpp1Halt => Sys2Proof.Machine.execTpp1Halt s
  | .tpp1Resume => Sys2Proof.Machine.execTpp1Resume s
  | .tpp1Rumble level => Sys2Proof.Machine.execTpp1Rumble level s
  | .tpp1Mr3ign code => Sys2Proof.Machine.execTpp1Mr3ign code s
  | .tpp1Ign data => Sys2Proof.Machine.execTpp1Ign data s

end Sys2Proof.Machine
end

