-- ==== Sys2Proof/Machine/Loader.lean ====
section
/-! DEFINITION. `load_rom` (spec/60_exceptions.md R330 to R339): from the bytes of a ROM file to a configuration, and the
reset it ends in (spec/70_reset_and_hazards.md R370, spec/40_window_access.md R159). -/

namespace Sys2Proof.Machine

/-- `header[i]` (R330). -/
def header (bytes : List Byte) (i : Nat) : Byte := bytes.getD i 0#8

/-- The result of classifying `header[0x0147]` (R332). PRESUMED by the spec itself where it says so (decision D36),
log 13. MBC1 may become MBC1M64 later (R333). -/
def classify (bytes : List Byte) : Except LoadError Variant :=
  if header bytes 0x147 ∈ [0x00#8, 0x08#8, 0x09#8] then .ok .plain
  else if header bytes 0x147 ∈ [0x01#8, 0x02#8, 0x03#8] then .ok .mbc1
  else if header bytes 0x147 ∈ [0x05#8, 0x06#8] then .ok .mbc2
  else if header bytes 0x147 ∈ [0x0F#8, 0x10#8, 0x11#8, 0x12#8, 0x13#8] then .ok .mbc3
  else if header bytes 0x147 ∈ [0x19#8, 0x1A#8, 0x1B#8, 0x1C#8, 0x1D#8, 0x1E#8] then .ok .mbc5
  else if header bytes 0x147 = 0xFF#8 then .ok .huc1
  else if header bytes 0x147 = 0xBC#8 then
    (if header bytes 0x149 = 0xC1#8 ∧ header bytes 0x14A = 0x65#8 then .ok .tpp1 else .error .malformedHeader)
  else if header bytes 0x147 ∈
      [0x0B#8, 0x0C#8, 0x0D#8, 0x15#8, 0x16#8, 0x17#8, 0x20#8, 0x22#8, 0xFC#8, 0xFD#8, 0xFE#8] then
    .error .unsupportedMapper
  else .error .malformedHeader

/-- The checks of `load_rom`, made before any state is touched (R330 steps 1 and 2, R331, R339). -/
def checkRom (bytes : List Byte) : Except LoadError Variant :=
  if bytes.length < 0x154 then .error .malformedHeader else classify bytes

/-- `next_pow2` from the power `p` up, in at most the given number of doublings. -/
def pow2From : Nat → Nat → Nat → Nat
  | 0, _, p => p
  | k + 1, n, p => if n ≤ p then p else pow2From k n (2 * p)

/-- `next_pow2(n)`: the smallest power of two that is at least `n` (spec/00_scope.md R13). -/
def nextPow2 (n : Nat) : Nat := pow2From n n 1

/-- `rombanks = max(2, next_pow2(ceil(filesize / 0x4000)))` (R335). -/
def romBanksOf (fileSize : Nat) : Nat := max 2 (nextPow2 ((fileSize + 0x3FFF) / 0x4000))

/-- `rambanks` from the RAM size code (R334); code 1 and codes 6 and above are the free `RAMBANKS_UNLISTED` (log 8). -/
def ramBanksOfCode (v : Variant) (c : Byte) : Nat :=
  if c = 0#8 then (if v = .mbc2 then 1 else 0)
  else if c = 2#8 then 1
  else if c = 3#8 then 4
  else if c = 4#8 then 16
  else if c = 5#8 then 16
  else Config.rambanksUnlisted c

/-- `rambanks` of a TPP1: `header[0x152]==0 ? 0 : 1 << min(header[0x152]-1, 8)` (R334). -/
def ramBanksOfTpp1 (c : Byte) : Nat := if c = 0#8 then 0 else 2 ^ min (c.toNat - 1) 8

/-- `rambanks` (R334). -/
def ramBanksOf (v : Variant) (bytes : List Byte) : Nat :=
  if v = .tpp1 then ramBanksOfTpp1 (header bytes 0x152) else ramBanksOfCode v (header bytes 0x149)

/-- The choice of MBC1M64 (R333). -/
def chooseVariant (v : Variant) (rambanks rombanks : Nat) (multicartCompat : Bool) : Variant :=
  if v = .mbc1 ∧ rambanks = 0 ∧ rombanks = 64 ∧ multicartCompat then .mbc1m64 else v

/-- The cartridge types with a battery (R336). -/
def batteryTypes : List Byte := [0x03#8, 0x06#8, 0x09#8, 0x0F#8, 0x10#8, 0x13#8, 0x1B#8, 0x1E#8, 0xFF#8]

/-- The cartridge types with the MBC3 clock (R336). -/
def rtcTypes : List Byte := [0x0F#8, 0x10#8]

/-- `Cfg.features` (R336). -/
def featuresOf (v : Variant) (bytes : List Byte) : Byte := if v = .tpp1 then header bytes 0x153 else 0#8

/-- The configuration of a file whose type is `v` (R330 steps 3 to 7). The presence of a host clock and
`TX_RUNNING_RESET` are not in the file and stay as they are in `old` (log 26). -/
def cfgOf (v : Variant) (bytes : List Byte) (multicartCompat : Bool) (old : Cfg) : Cfg where
  variant := chooseVariant v (ramBanksOf v bytes) (romBanksOf bytes.length) multicartCompat
  rombanks := romBanksOf bytes.length
  rambanks := ramBanksOf v bytes
  rtcWired := decide (header bytes 0x147 ∈ rtcTypes)
  features := featuresOf v bytes
  battery := decide (header bytes 0x147 ∈ batteryTypes) || (v == .tpp1 && (featuresOf v bytes).getLsbD 3)
  hasRtc := decide (header bytes 0x147 ∈ rtcTypes) || (v == .tpp1 && (featuresOf v bytes).getLsbD 2)
  hostClock := old.hostClock
  txRunningReset := old.txRunningReset

/-- `MP.reset` (spec/40_window_access.md R159): RAM zero-filled, windows at their defaults, all flags clear. -/
def mpReset (s : State) : State := { s with ram := [], win := ⟨0#16, 1#16, 0#8, false, false, false⟩ }

/-- "clears RTC/TX" (R370 step 2): every field 0, `TX.running` at `TX_RUNNING_RESET`. -/
def clearClocks (s : State) : State :=
  { s with
    rtc := Rtc.reset
    tx := ⟨0#32, 0#32, 0#8, 0#8, 0#8, 0#8, 0#2, 0#2, 0#8, false, s.cfg.txRunningReset, false⟩ }

/-- The file bytes, the rest of the image `0xFF` (R370 step 3). -/
def fillRom (bytes : List Byte) (s : State) : State := { s with rom := Memory.ofBytes romBlank 0 bytes }

/-- The mapper of the variant is constructed, TX wired in TPP1 (R370 steps 4 and 5). -/
def constructMapper (s : State) : State :=
  { s with
    mapper := Mapper.reset
    tx := if s.cfg.variant = .tpp1 then { s.tx with features := s.cfg.features, enabled := true } else s.tx }

/-- Reset with a new configuration and ROM file: the six steps of R370. -/
def install (c : Cfg) (bytes : List Byte) (s : State) : State :=
  sync (constructMapper (fillRom bytes (clearClocks (mpReset { s with cfg := c, live := true }))))

/-- The `cgb` flag (R330 step 5), which this block does not read. -/
def cgbFlag (bytes : List Byte) (forceDmg : Bool) : Bool := (header bytes 0x143).getLsbD 7 && !forceDmg

/-- `load_rom` (R330). A failed load changes nothing but the answer (R339). -/
def loadRom (bytes : List Byte) (forceDmg multicartCompat : Bool) (s : State) : Result :=
  match checkRom bytes with
  | .error e => .next (reply (.loadFailed e) s)
  | .ok v => .next (reply (.loaded (cgbFlag bytes forceDmg)) (install (cfgOf v bytes multicartCompat s.cfg) bytes s))

end Sys2Proof.Machine
end

