-- ==== Sys2Proof/Machine/HostOps.lean ====
section
/-! DEFINITION. The host operations besides `load_rom` (spec/60_exceptions.md): save-data, snapshot, debug queries,
tear-down, and the routing of every host operation. -/

namespace Sys2Proof.Machine

/-! ## Save-data -/

/-- `save_savedata_length()` (R343). -/
def blobLength (c : Cfg) : Nat := (if c.battery then c.ramSize else 0) + (if c.hasRtc then 4 else 0)

/-- Where the base time stands in the blob (R341). -/
def timeOffset (c : Cfg) : Nat := if c.battery then c.ramSize else 0

/-- Four little-endian bytes of a blob as a time (R341). -/
def timeOfBytes (bs : List Byte) : Time := bs.getD 3 0#8 ++ bs.getD 2 0#8 ++ bs.getD 1 0#8 ++ bs.getD 0 0#8

/-- A time as four little-endian bytes (R343). -/
def bytesOfTime (v : Time) : List Byte :=
  [v.extractLsb' 0 8, v.extractLsb' 8 8, v.extractLsb' 16 8, v.extractLsb' 24 8]

/-- The base time of "whichever clock is active" (R343). -/
def activeBaseTime (s : State) : Time := if s.cfg.variant = .tpp1 then s.tx.baseTime else s.rtc.baseTime

/-- The base time is routed to TX or RTC (R341). -/
def setActiveBaseTime (v : Time) (s : State) : State :=
  if s.cfg.variant = .tpp1 then txSetBaseTime v s else rtcSetBaseTime v s

/-- The cartridge RAM part of an import (R341). -/
def importRam (bytes : List Byte) (s : State) : State :=
  if s.cfg.battery then { s with ram := Memory.ofBytes ramBlank 0 (bytes.take s.cfg.ramSize) } else s

/-- The base time part of an import (R341). -/
def importTime (bytes : List Byte) (s : State) : State :=
  if s.cfg.hasRtc then setActiveBaseTime (timeOfBytes (bytes.drop (timeOffset s.cfg))) s else s

/-- `load_savedata(bytes)` (R341); a short blob is refused, bytes past the expected length are not read (R342). -/
def loadSavedata (bytes : List Byte) (s : State) : Result :=
  if bytes.length < blobLength s.cfg then .refused .shortBlob
  else complete (importTime bytes (importRam bytes s))

/-- The blob `save_savedata` writes (R343). -/
def saveBlob (s : State) : List Byte :=
  (if s.cfg.battery then Memory.toBytes ramBlank s.ram s.cfg.ramSize else [])
    ++ (if s.cfg.hasRtc then bytesOfTime (activeBaseTime s) else [])

/-- `save_savedata(dest)` (R343). -/
def saveSavedata (s : State) : Result := .next (reply (.savedata (saveBlob s)) s)

/-- `save_savedata_length()` (R343). -/
def savedataLength (s : State) : Result := .next (reply (.length (blobLength s.cfg)) s)

/-! ## Snapshot -/

/-- The fields `save_state` copies out (R350). -/
def snapshotOf (s : State) : Snapshot := ⟨s.mapper, s.rtc, s.tx, s.ram, s.cfg, s.rom⟩

/-- `save_state` (R351). -/
def saveState (s : State) : Result := .next (reply (.snapshot (snapshotOf s)) s)

/-- The fields `load_state` copies in (R352). -/
def restore (snap : Snapshot) (s : State) : State :=
  { s with mapper := snap.mapper, rtc := snap.rtc, tx := snap.tx, ram := snap.ram }

/-- `load_state` then `sync_state` (R352); a snapshot of another cartridge is refused (R350, U7). -/
def loadState (snap : Snapshot) (s : State) : Result :=
  if snap.origin = s.cfg ∧ snap.originRom = s.rom then complete (sync (restore snap s))
  else .refused .foreignSnapshot

/-! ## Debug queries and tear-down -/

/-- `get_memory_area(id)` (R355). -/
def getMemoryArea (id : Nat) (s : State) : Result :=
  if id = 1 then .next (reply (.area .rom s.rom s.cfg.romSize) s)
  else if id = 3 then .next (reply (.area .ram s.ram s.cfg.ramSize) s)
  else if id = 0 ∨ id = 2 then .refused (.areaOutsideBlock id)
  else .refused (.areaUnspecified id)

/-- `can_map_bank_at(addr, bank)` of MBC1M64: `(addr < 0x4000) == ((bank & 0xF) == 0)` (spec/44_mbc1_multi64.md R256). -/
def m64CanMap (addr : Addr) (bank : Nat) : Bool := decide (addr.toNat < 0x4000) == decide (bank % 16 = 0)

/-- `can_map_bank_at(addr, bank)` (R356): outside MBC1M64 a free value (U3; log 10). -/
def canMapBankAt (addr : Addr) (bank : Nat) (s : State) : Result :=
  if s.cfg.variant = .mbc1m64 then .next (reply (.bool (m64CanMap addr bank)) s)
  else .next (reply (.bool (Config.freeCanMap s.freeUses)) { s with freeUses := s.freeUses + 1 })

/-- Tear-down (R364): the images are released; no operation but `load_rom` is defined afterwards (log 21). -/
def tearDown (s : State) : Result := complete { s with live := false, rom := [], ram := [] }

/-! ## Routing -/

/-- A host operation on a live block. -/
def runLiveHostOp (op : HostOp) (s : State) : Result :=
  match op with
  | .loadRom bytes forceDmg multicartCompat => loadRom bytes forceDmg multicartCompat s
  | .loadSavedata bytes => loadSavedata bytes s
  | .savedataLength => savedataLength s
  | .saveSavedata => saveSavedata s
  | .saveState => saveState s
  | .loadState snap => loadState snap s
  | .getMemoryArea id => getMemoryArea id s
  | .canMapBankAt addr bank => canMapBankAt addr bank s
  | .tearDown => tearDown s

/-- A host operation: after tear-down only `load_rom` is defined (R364). -/
def runHostOp (op : HostOp) (s : State) : Result :=
  match s.live, op with
  | true, _ => runLiveHostOp op s
  | false, .loadRom bytes forceDmg multicartCompat => loadRom bytes forceDmg multicartCompat s
  | false, _ => .refused .tornDown

/-- The host clock will answer `t` from now on. It may also go backwards (spec/70_reset_and_hazards.md R389; log 5). -/
def setHostClock (t : Time) (s : State) : Result := complete { s with hostNow := t }

end Sys2Proof.Machine
end

