-- ==== Sys2Proof/Machine/Requests.lean ====
section
/-! DEFINITION. Taking and running one request (spec/00_scope.md R8, R9; spec/20_memory.md R96). -/

namespace Sys2Proof.Machine

/-- A bus transaction: decoded in the state it meets (spec/30_encoding.md R122, R132) and executed; undefined after
tear-down (spec/60_exceptions.md R364). -/
def runBus (t : Word) (s : State) : Result :=
  if s.live then exec (decode (decodeMode s) t) s else .refused .tornDown

/-- One request. -/
def runRequest (r : Request) (s : State) : Result :=
  match r with
  | .bus t => runBus t s
  | .host op => runHostOp op s
  | .clock t => setHostClock t s

/-- The next request is taken and run. With nothing requested the block does nothing: it "never initiates anything"
(spec/00_scope.md R8). -/
def runNext (s : State) : Result :=
  match s.queue with
  | [] => .next s
  | r :: rest => runRequest r { s with queue := rest }

/-- The word of a table row as the CPU would issue it. -/
def tableWord (nbits w : Nat) : Word := BitVec.ofNat 25 (w % 2 ^ nbits)

end Sys2Proof.Machine
end

