-- ==== Sys2Proof/Machine/Step.lean ====
section
/-! DEFINITION. One step. The block fetches nothing and has no program counter (spec/10_state.md R21): the next
transaction is the head of the queue of requests (log 1). -/

namespace Sys2Proof.Machine

/-- One step of the machine: one request. -/
def step (s : State) : Host.Outcome State Fault Refusal := runNext s

/-- `s` with the transaction of the bits `w` (those above `nbits` zero) as the next one the CPU issues. -/
def State.withFetchWord (s : State) (nbits w : Nat) : State :=
  { s with queue := .bus (tableWord nbits w) :: s.queue }

end Sys2Proof.Machine
end

