-- ==== Sys2Proof/Safety.lean ====
section
/-! DEFINITION. What holds in every state the block can reach (spec/10_state.md), and the words in which statements say
what an operation leaves unchanged. -/

namespace Sys2Proof.Machine

/-! ## Values the registers can hold -/

/-- The values `M.rombank` can hold (spec/10_state.md R23). -/
def rombankLegal (v : Variant) (bank : RomBank) : Bool :=
  match v with
  | .plain => bank == 1#16
  | .mbc1 => decide (bank.toNat < 0x80)
  | .mbc1m64 => decide (bank.toNat < 0x80)
  | .mbc2 => decide (bank.toNat < 0x10)
  | .mbc3 => decide (bank.toNat < 0x80)
  | .huc1 => decide (bank.toNat < 0x40)
  | .mbc5 => decide (bank.toNat < 0x200)
  | .tpp1 => true

/-- The values `M.rambank` can hold (R24). -/
def rambankLegal (v : Variant) (bank : RamBank) : Bool :=
  match v with
  | .plain => bank == 0#8
  | .mbc1 => decide (bank.toNat < 4)
  | .mbc1m64 => bank == 0#8
  | .mbc2 => bank == 0#8
  | .mbc3 => true
  | .huc1 => decide (bank.toNat < 4)
  | .mbc5 => decide (bank.toNat < 0x10)
  | .tpp1 => true

/-- The variants with a mode register (R26). -/
def hasModeRegister (v : Variant) : Bool := v == .mbc1 || v == .huc1 || v == .mbc1m64

/-- The mapper registers hold values their variant can give them (R23 to R27). -/
structure Mapper.Legal (v : Variant) (m : Mapper) : Prop where
  rombank : rombankLegal v m.rombank = true
  rambank : rambankLegal v m.rambank = true
  enableRam : v = .tpp1 → m.enableRam = false
  ramBankMode : hasModeRegister v = false → m.ramBankMode = false
  mapmode : v ≠ .tpp1 → m.mapmode = 0#2

/-- A clock that is not wired is never selected and never tracks a latch (R42, R43). -/
structure Rtc.Legal (c : Cfg) (r : Rtc) : Prop where
  active : c.rtcWired = false → r.active = false
  lastLatch : c.rtcWired = false → r.lastLatch = false

/-- `TX.curmap = M.mapmode` (R52); `TX.enabled` and `TX.features` as reset leaves them (R45, R60). -/
structure Tx.Legal (c : Cfg) (m : Mapper) (x : Tx) : Prop where
  curmap : x.curmap = m.mapmode
  enabled : x.enabled = decide (c.variant = .tpp1)
  features : x.features = if c.variant = .tpp1 then c.features else 0#8

/-- An image in canonical form that lists no index at or beyond its size. -/
structure Memory.Fits (blank : Byte) (size : Nat) (mem : Memory) : Prop where
  canonical : Memory.wf blank mem = true
  inside : Memory.below size mem = true

/-- What a snapshot holds is legal for the cartridge it was taken from. -/
structure Snapshot.Legal (snap : Snapshot) : Prop where
  mapper : snap.mapper.Legal snap.origin.variant
  rtc : snap.rtc.Legal snap.origin
  tx : snap.tx.Legal snap.origin snap.mapper
  ram : snap.ram.Fits ramBlank snap.origin.ramSize

/-- The host hands back only legal snapshots; every other request is unrestricted. -/
def Request.Legal (r : Request) : Prop := ∀ snap, r = .host (.loadState snap) → snap.Legal

/-! ## The invariant -/

/-- The invariant of the block. -/
structure Invariant (s : State) : Prop where
  cfg : s.cfg.legal = true
  mapper : s.mapper.Legal s.cfg.variant
  rtc : s.rtc.Legal s.cfg
  tx : s.tx.Legal s.cfg s.mapper
  ram : s.ram.Fits ramBlank s.cfg.ramSize
  rom : s.rom.Fits romBlank s.cfg.romSize
  /-- The window invariant (R31) and the selection invariant (R42). -/
  windows : sync s = s
  requests : ∀ r ∈ s.queue, r.Legal

/-! ## Banks as numbers -/

/-- `adjusted` on numbers (spec/43_common_plain.md R232). -/
def adjustedNumber (bank : Nat) : Nat := if bank % 32 = 0 then bank + 1 else bank

/-- The RAM bank a number selects: 0 without RAM, else taken modulo the number of banks (spec/40_window_access.md R158). -/
def ramBankNumber (c : Cfg) (bank : Nat) : Nat := if c.rambanks = 0 then 0 else bank % c.rambanks

/-- `(data & 0xF) == 0xA` on numbers (spec/43_common_plain.md R231). -/
def enables (data : Byte) : Bool := decide (data.toNat % 16 = 10)

/-- A truth value as the bit it stands for. -/
def bit (b : Bool) : Nat := if b then 1 else 0

/-! ## Frames -/

/-- Every byte of both images reads as before. -/
def SameImages (s t : State) : Prop := ∀ i, romByte i t = romByte i s ∧ ramByte i t = ramByte i s

/-- Nothing but the answer may differ. -/
def OnlyAnswer (s t : State) : Prop := t = { s with answer := t.answer } ∧ SameImages s t

/-- The operation completes without a value; nothing but the mapper registers and the windows may differ. -/
def OnlyMapperAndWindows (s t : State) : Prop :=
  t = { s with mapper := t.mapper, win := t.win, answer := .done } ∧ SameImages s t

/-- The operation completes without a value; nothing but the MBC3 clock and the count of `now()` may differ. -/
def OnlyRtc (s t : State) : Prop := t = { s with rtc := t.rtc, nowCalls := t.nowCalls, answer := .done } ∧ SameImages s t

/-- The operation completes without a value; nothing but the TPP1 extension and the count of `now()` may differ. -/
def OnlyTx (s t : State) : Prop := t = { s with tx := t.tx, nowCalls := t.nowCalls, answer := .done } ∧ SameImages s t

/-- The word `t` is the next request of a live block, and `rest` waits behind it. -/
def Issued (t : Word) (rest : List Request) (s : State) : Prop := s.live = true ∧ s.queue = .bus t :: rest

end Sys2Proof.Machine
end

