-- ==== Sys2Proof/Certificates/Slice0/Obligations.lean ====
section
/-! DEFINITION. The statements about the block. `Invariant` and the frames are in Sys2Proof/Safety.lean. -/

open Sys2Proof Sys2Proof.Machine

/-! ## Encoding -/

/-- Words written out from the encodings of spec/30_encoding.md R120 to R126, R130, R133 decode to the operation they
stand for, one or more for each group of the table. -/
def Obligations.WrittenWordsDecode : Prop :=
  ∀ m : DecodeMode,
    decode m 0x0014700#25 = .rdRom0 0x0147#14 ∧
    decode m 0x0400000#25 = .rdRomx 0x0000#14 ∧
    decode m 0x1C00012#25 = .extC000 true 0x0000#14 0x12#8 ∧
    decode { m with variant := .mbc5 } 0x0A01000#25 = .rdXram 0x0010#13 ∧
    decode { m with variant := .mbc1 } 0x1A01077#25 = .wrXram 0x0010#13 0x77#8 ∧
    decode { m with variant := .mbc3, rtcWired := true, re := true, rtcEn := true, reg := .h } 0x0A00000#25 = .rtcRdH ∧
    decode { m with variant := .mbc3, rtcWired := true, we := true, rtcEn := true, reg := .dh } 0x1A00040#25
      = .rtcWrDh 0x40#8 ∧
    decode { m with variant := .tpp1, re := true, rtcEn := true, curmap := 0#2 } 0x0A00300#25 = .txRdMr3 ∧
    decode { m with variant := .tpp1, re := true, rtcEn := true, curmap := 3#2 } 0x0A00100#25 = .txRdH ∧
    decode { m with variant := .tpp1, we := true, rtcEn := true, curmap := 3#2 } 0x1A00203#25 = .txWrM 0x03#8 ∧
    decode { m with variant := .plain } 0x100000A#25 = .plainRamen 0x0A#8 ∧
    decode { m with variant := .mbc1 } 0x1200000#25 = .mbc1Bank1 0x00#8 ∧
    decode { m with variant := .mbc1m64 } 0x1400001#25 = .m64Bank2 0x01#8 ∧
    decode { m with variant := .mbc2 } 0x1210007#25 = .mbc2Romb 0x07#8 ∧
    decode { m with variant := .mbc2 } 0x1200003#25 = .mbc2Ign2000 0x03#8 ∧
    decode { m with variant := .mbc3 } 0x1600001#25 = .mbc3Latch 0x01#8 ∧
    decode { m with variant := .huc1 } 0x1400002#25 = .huc1Ramb 0x02#8 ∧
    decode { m with variant := .mbc5 } 0x1300001#25 = .mbc5Romb1 0x01#8 ∧
    decode { m with variant := .tpp1 } 0x1000103#25 = .tpp1Mr1 0x03#8 ∧
    decode { m with variant := .tpp1 } 0x1000322#25 = .tpp1Rumble 2#2 ∧
    decode { m with variant := .tpp1 } 0x1000301#25 = .tpp1Mr3ign 0x01#8

/-- Decoding the encoding of a well-formed transaction gives it back, with every operand, in every configuration and
state that can select its row. -/
def Obligations.DecodeOfEncode : Prop :=
  ∀ (m : DecodeMode) (i : Instr), i.wf = true → i.selectedBy m = true → decode m (encode i) = i

/-- Every word decodes to a well-formed transaction whose row of the table it matches, and whose row's variant and
state conditions hold (spec/30_encoding.md R122, R132, R133, R136). -/
def Obligations.DecodedRowMatches : Prop :=
  ∀ (m : DecodeMode) (t : Word),
    (decode m t).wf = true ∧ (decode m t).selectedBy m = true ∧ (decode m t).row.selects t = true ∧
    ((decode m t).row.variant = none ∨ (decode m t).row.variant = some m.variant)

/-- No second row: two instructions whose rows match one word, and whose rows' conditions both hold, have one constructor
(`ctorIdx` is its number in `Instr`), and the word decodes to it; the ignored MR3 codes alone have a lower priority than the
named ones (spec/30_encoding.md R136, spec/49_tpp1.md R315). Each constructor is one row of the table. -/
def Obligations.RowsExcludeEachOther : Prop :=
  (∀ (m : DecodeMode) (t : Word) (i : Instr), i.selectedBy m = true → i.row.selects t = true →
    (decode m t).ctorIdx = i.ctorIdx ∨ ∃ code, i = .tpp1Mr3ign code) ∧
  (∀ (m : DecodeMode) (t : Word) (i j : Instr), i.selectedBy m = true → i.row.selects t = true →
    j.selectedBy m = true → j.row.selects t = true →
    i.ctorIdx = j.ctorIdx ∨ (∃ code, i = .tpp1Mr3ign code) ∨ ∃ code, j = .tpp1Mr3ign code)

/-- A control-register write is decoded from the bits its format reads and from no other: every register is mirrored
across the address bits its decoder ignores (spec/30_encoding.md R121, R123 to R126). -/
def Obligations.ControlWritesAreMirrored : Prop :=
  ∀ (m : DecodeMode) (t t' : Word), t.extractLsb' 23 2 = 0b10#2 →
    (match m.variant with
      | .mbc5 => t &&& 0x1F000FF#25 = t' &&& 0x1F000FF#25
      | .mbc2 => t &&& 0x1E100FF#25 = t' &&& 0x1E100FF#25
      | .tpp1 => t &&& 0x1C003FF#25 = t' &&& 0x1C003FF#25
      | _ => t &&& 0x1E000FF#25 = t' &&& 0x1E000FF#25) →
    decode m t' = decode m t

/-! ## Steps -/

/-- A step takes the request at the head of the queue: on a live block a transaction runs the instruction its word decodes
to in the state it meets and a host operation runs as `runLiveHostOp` says; a new answer of the host clock is noted; with
nothing requested nothing happens. The queue and `withFetchWord` are the model's (log 1). So is the host clock as a request,
which may set any value, also a smaller one (log 5; the script line NOW of spec/30_encoding.md R134), and also after
tear-down (log 21). -/
def Obligations.StepRunsTheDecodedTransaction : Prop :=
  (∀ (s : State) (t : Word) (rest : List Request), Issued t rest s →
    step s = exec (decode (decodeMode s) t) { s with queue := rest }) ∧
  (∀ (s : State) (i : Instr) (rest : List Request), i.wf = true → i.selectedBy (decodeMode s) = true →
    Issued (encode i) rest s → step s = exec i { s with queue := rest }) ∧
  (∀ (s : State) (nbits w : Nat), s.live = true →
    step (s.withFetchWord nbits w) = exec (decode (decodeMode s) (BitVec.ofNat 25 (w % 2 ^ nbits))) s) ∧
  (∀ (s : State) (op : HostOp) (rest : List Request), s.live = true → s.queue = .host op :: rest →
    step s = runLiveHostOp op { s with queue := rest }) ∧
  (∀ (s : State) (v : Time) (rest : List Request), s.queue = .clock v :: rest →
    step s = .next { s with queue := rest, hostNow := v, answer := .done }) ∧
  (∀ s : State, s.queue = [] → step s = .next s)

/-- Every bus transaction completes: from every state of the invariant every instruction gives a next state, and so does
a step that takes a transaction (spec/30_encoding.md R131, spec/43_common_plain.md R238, spec/60_exceptions.md R340). That
transactions outside the block complete is the model's choice (log 7; decision D40 leaves it open), and so is that `exec`
runs the rule of a row which the variant does not select (log 19). -/
def Obligations.EveryTransactionCompletes : Prop :=
  (∀ (i : Instr) (s : State), Invariant s → ∃ t, exec i s = .next t) ∧
  (∀ (s : State) (t : Word) (rest : List Request), Invariant s → Issued t rest s →
    ∃ s', step s = .next s' ∧ s'.queue = rest ∧ s'.live = true ∧ s'.cfg = s.cfg)

/-! ## Window access -/

/-- Translation (spec/20_memory.md R93): the bank the window is aimed at times the bank size plus the offset, inside the
image, the offset never carrying into the bank; nothing else changes. -/
def Obligations.WindowTranslation : Prop :=
  (∀ (s : State) (off : BitVec 14), Invariant s →
    exec (.rdRom0 off) s = .next { s with answer := .byte (romByte (s.win.rom0.toNat * 0x4000 + off.toNat) s) } ∧
    s.win.rom0.toNat * 0x4000 + off.toNat < s.cfg.rombanks * 0x4000 ∧
    (s.win.rom0.toNat * 0x4000 + off.toNat) / 0x4000 = s.win.rom0.toNat) ∧
  (∀ (s : State) (off : BitVec 14), Invariant s →
    exec (.rdRomx off) s = .next { s with answer := .byte (romByte (s.win.rom.toNat * 0x4000 + off.toNat) s) } ∧
    s.win.rom.toNat * 0x4000 + off.toNat < s.cfg.rombanks * 0x4000 ∧
    (s.win.rom.toNat * 0x4000 + off.toNat) / 0x4000 = s.win.rom.toNat) ∧
  (∀ (s : State) (off : BitVec 13), Invariant s → s.win.re = true → s.win.rtcEn = false → s.cfg.rambanks ≠ 0 →
    exec (.rdXram off) s = .next { s with answer := .byte (ramByte (s.win.ram.toNat * 0x2000 + off.toNat) s) } ∧
    s.win.ram.toNat * 0x2000 + off.toNat < s.cfg.rambanks * 0x2000 ∧
    (s.win.ram.toNat * 0x2000 + off.toNat) / 0x2000 = s.win.ram.toNat) ∧
  (∀ (m : DecodeMode) (a : Addr) (d : Byte), a.toNat < 0x4000 →
    ∃ off : BitVec 14, decode m (pack false a d) = .rdRom0 off ∧ off.toNat = a.toNat) ∧
  (∀ (m : DecodeMode) (a : Addr) (d : Byte), 0x4000 ≤ a.toNat → a.toNat < 0x8000 →
    ∃ off : BitVec 14, decode m (pack false a d) = .rdRomx off ∧ off.toNat = a.toNat - 0x4000) ∧
  (∀ (m : DecodeMode) (a : Addr) (d : Byte), m.rtcEn = false → 0xA000 ≤ a.toNat → a.toNat < 0xC000 →
    ∃ off : BitVec 13, decode m (pack false a d) = .rdXram off ∧ off.toNat = a.toNat - 0xA000)

/-- The byte a read of the RAM window returns, and that nothing else changes (spec/40_window_access.md R156). The order of
the tests, which clock the window reaches and `addr & 3` for TX reads are the spec's own choices (decisions D13, D14, D26);
that the RAM bank values `0x09` to `0x0C` show M, H, DL, DH is PRESUMED (spec/41_rtc_mbc3.md R171, spec/10_state.md R42,
decision D16; log 13). -/
def Obligations.RamWindowRead : Prop :=
  ∀ (s : State) (off : BitVec 13), Invariant s →
    exec (.rdXram off) s = .next { s with answer := .byte (
      if s.win.re = false then 0xFF#8
      else if s.win.rtcEn = true then
        (if s.cfg.variant = .tpp1 then
          (if s.mapper.mapmode = 0#2 then
            (if off.toNat % 4 = 0 then BitVec.ofNat 8 (s.mapper.rombank.toNat % 256)
              else if off.toNat % 4 = 1 then BitVec.ofNat 8 (s.mapper.rombank.toNat / 256)
              else if off.toNat % 4 = 2 then s.mapper.rambank
              else BitVec.ofNat 8 (0xF0 + 8 * bit s.tx.overflow + 4 * bit s.tx.running + s.tx.rumble.toNat))
          else
            (if off.toNat % 4 = 0 then s.tx.w
              else if off.toNat % 4 = 1 then s.tx.h
              else if off.toNat % 4 = 2 then s.tx.m
              else s.tx.s))
        else
          (if s.mapper.rambank.toNat = 0x08 then s.rtc.s
            else if s.mapper.rambank.toNat = 0x09 then s.rtc.m
            else if s.mapper.rambank.toNat = 0x0A then s.rtc.h
            else if s.mapper.rambank.toNat = 0x0B then s.rtc.dl
            else s.rtc.dh))
      else if s.cfg.rambanks = 0 then 0xFF#8
      else ramByte (s.win.ram.toNat * 0x2000 + off.toNat) s) }

/-- What a write through the RAM window does (spec/40_window_access.md R157): refused, or to a clock register, or ignored
without RAM, or exactly one byte stored, at the index the meaning computes. The order of the tests and which clock the
window reaches are the spec's own choices (decisions D13, D14); that the RAM bank values `0x09` to `0x0C` select M, H, DL,
DH, and that MBC3 clock registers can be written at all, is PRESUMED (spec/41_rtc_mbc3.md R171, R175, spec/10_state.md R42,
decisions D16, D20; log 13). -/
def Obligations.RamWindowWrite : Prop :=
  ∀ (s : State) (off : BitVec 13) (data : Byte), Invariant s →
    ∃ t, exec (.wrXram off data) s = .next t ∧
      (s.win.we = false → OnlyAnswer s t ∧ t.answer = .done) ∧
      (s.win.we = true → s.win.rtcEn = true → s.cfg.variant = .tpp1 →
        OnlyTx s t ∧ t.nowCalls = s.nowCalls ∧
        t.tx = (if off.toNat % 4 = 0 then { s.tx with w := data }
          else if off.toNat % 4 = 1 then { s.tx with h := data }
          else if off.toNat % 4 = 2 then { s.tx with m := data }
          else { s.tx with s := data })) ∧
      (s.win.we = true → s.win.rtcEn = true → s.cfg.variant ≠ .tpp1 →
        OnlyRtc s t ∧
        exec (if s.mapper.rambank.toNat = 0x08 then .rtcWrS data
          else if s.mapper.rambank.toNat = 0x09 then .rtcWrM data
          else if s.mapper.rambank.toNat = 0x0A then .rtcWrH data
          else if s.mapper.rambank.toNat = 0x0B then .rtcWrDl data
          else .rtcWrDh data) s = .next t) ∧
      (s.win.we = true → s.win.rtcEn = false → s.cfg.rambanks = 0 → OnlyAnswer s t ∧ t.answer = .done) ∧
      (s.win.we = true → s.win.rtcEn = false → s.cfg.rambanks ≠ 0 →
        t = { s with ram := t.ram, answer := .done } ∧
        ramIndex s.win.ram off = s.win.ram.toNat * 0x2000 + off.toNat ∧
        ramIndex s.win.ram off < s.cfg.rambanks * 0x2000 ∧
        ramByte (ramIndex s.win.ram off) t = data ∧
        (∀ i, i ≠ ramIndex s.win.ram off → ramByte i t = ramByte i s) ∧
        (∀ i, romByte i t = romByte i s))

/-- A byte stored through the RAM window is the byte the next read of it returns, through any window setting that aims at
its bank, and every other byte of the window reads as before (spec/20_memory.md R96). -/
def Obligations.StoredByteIsReadBack : Prop :=
  ∀ (s : State) (off : BitVec 13) (data : Byte), Invariant s → s.win.we = true → s.win.rtcEn = false → s.cfg.rambanks ≠ 0 →
    ∃ t, exec (.wrXram off data) s = .next t ∧
      ∀ u : State, Invariant u → u.cfg = s.cfg → u.ram = t.ram → u.win.re = true → u.win.rtcEn = false →
        (u.win.ram = s.win.ram → exec (.rdXram off) u = .next { u with answer := .byte data }) ∧
        (∀ off' : BitVec 13, u.win.ram ≠ s.win.ram ∨ off' ≠ off →
          exec (.rdXram off') u =
            .next { u with answer := .byte (ramByte (u.win.ram.toNat * 0x2000 + off'.toNat) s) })

/-- No bus read changes any state of the block or invokes `now()`, and the same read again returns the same answer
(spec/20_memory.md R91). -/
def Obligations.ReadsChangeNothing : Prop :=
  ∀ (s : State) (t : Word) (rest : List Request) (s' : State), Issued t rest s → tRw t = false → step s = .next s' →
    s' = { s with queue := rest, answer := s'.answer } ∧
    ∀ rest', step { s' with queue := .bus t :: rest' } = .next { s' with queue := rest' }

/-- Nothing but a load, and tear-down, which releases it (spec/60_exceptions.md R364; log 21), changes the ROM image
(spec/20_memory.md R92); nor does anything else change the configuration, which is fixed from load to tear-down
(spec/00_scope.md R5) and which the model holds in State (log 3). -/
def Obligations.RomImageIsImmutable : Prop :=
  ∀ (s : State) (r : Request) (rest : List Request) (s' : State), s.queue = r :: rest → step s = .next s' →
    (∀ bytes fd mc, r ≠ .host (.loadRom bytes fd mc)) → r ≠ .host .tearDown →
    s'.cfg = s.cfg ∧ s'.rom = s.rom ∧ ∀ i, romByte i s' = romByte i s

/-- A transaction at `0x8000..0x9FFF` or `0xC000..0xFFFF` completes, changes nothing of the block and hands back nothing
(spec/40_window_access.md R155, spec/20_memory.md R84). That it completes, instead of being refused, is the model's choice
(log 7; decision D40 leaves it open). -/
def Obligations.OutsideTransactionsTouchNothing : Prop :=
  (∀ (write : Bool) (off : BitVec 13) (data : Byte) (s : State),
    exec (.ext8000 write off data) s = .next { s with answer := .external }) ∧
  (∀ (write : Bool) (off : BitVec 14) (data : Byte) (s : State),
    exec (.extC000 write off data) s = .next { s with answer := .external }) ∧
  (∀ (m : DecodeMode) (t : Word) (s : State),
    (0x8000 ≤ (tAddr t).toNat ∧ (tAddr t).toNat < 0xA000 ∨ 0xC000 ≤ (tAddr t).toNat) →
    exec (decode m t) s = .next { s with answer := .external })

/-- The rows that state selects do what the RAM-window rule does there, and the register the clock shows is the one the RAM
bank register names (spec/30_encoding.md R133, spec/10_state.md R42; log 18). -/
def Obligations.StateSelectedRowsAgree : Prop :=
  (∀ (s : State) (t : Word), Invariant s → t.extractLsb' 21 4 = 0b0101#4 →
    exec (decode (decodeMode s) t) s = exec (.rdXram (t.extractLsb' 8 13)) s) ∧
  (∀ (s : State) (t : Word), Invariant s → t.extractLsb' 21 4 = 0b1101#4 →
    exec (decode (decodeMode s) t) s = exec (.wrXram (t.extractLsb' 8 13) (tData t)) s) ∧
  (∀ s : State, Invariant s → s.cfg.rtcWired = true →
    s.rtc.active = decide (0x08 ≤ s.mapper.rambank.toNat ∧ s.mapper.rambank.toNat ≤ 0x0C) ∧
    (s.rtc.active = true →
      (s.rtc.index = .s ↔ s.mapper.rambank.toNat - 8 = 0) ∧ (s.rtc.index = .m ↔ s.mapper.rambank.toNat - 8 = 1) ∧
      (s.rtc.index = .h ↔ s.mapper.rambank.toNat - 8 = 2) ∧ (s.rtc.index = .dl ↔ s.mapper.rambank.toNat - 8 = 3) ∧
      (s.rtc.index = .dh ↔ s.mapper.rambank.toNat - 8 = 4)))

/-! ## The MBC3 clock -/

/-- A clock register read returns the latched copy and changes nothing; the address is ignored, time does not matter, and
after reset every register reads 0 (spec/41_rtc_mbc3.md R174). -/
def Obligations.RtcRegisterReads : Prop :=
  (∀ s : State,
    exec .rtcRdS s = .next { s with answer := .byte s.rtc.s } ∧
    exec .rtcRdM s = .next { s with answer := .byte s.rtc.m } ∧
    exec .rtcRdH s = .next { s with answer := .byte s.rtc.h } ∧
    exec .rtcRdDl s = .next { s with answer := .byte s.rtc.dl } ∧
    exec .rtcRdDh s = .next { s with answer := .byte s.rtc.dh }) ∧
  (∀ (m : DecodeMode) (t : Word), m.variant = .mbc3 → m.rtcWired = true → m.re = true → m.rtcEn = true →
    t.extractLsb' 21 4 = 0b0101#4 →
    decode m t = (match m.reg with
      | .s => .rtcRdS
      | .m => .rtcRdM
      | .h => .rtcRdH
      | .dl => .rtcRdDl
      | .dh => .rtcRdDh)) ∧
  (∀ (s : State) (v : Time) (i : Instr), i ∈ [Instr.rtcRdS, .rtcRdM, .rtcRdH, .rtcRdDl, .rtcRdDh] →
    ∃ b, exec i s = .next { s with answer := .byte b } ∧
      exec i { s with hostNow := v } = .next { s with hostNow := v, answer := .byte b }) ∧
  (∀ (c : Cfg) (rom : Memory) (i : Instr), i ∈ [Instr.rtcRdS, .rtcRdM, .rtcRdH, .rtcRdDl, .rtcRdDh] →
    exec i (State.resetFor c rom) = .next { State.resetFor c rom with answer := .byte 0#8 })

/-- MBC3.LATCH (spec/41_rtc_mbc3.md R172, R173, spec/46_mbc3.md R274): on the 0 to 1 edge of bit 0 the running or frozen
time is split into the five registers, whole 512-day periods moving the base time and setting the carry. The arithmetic
and the DH layout are the spec's own (decisions D17, D19, D21; log 13). -/
def Obligations.RtcLatchOnEdge : Prop :=
  (∀ (s : State) (data : Byte), s.cfg.rtcWired = false →
    exec (.mbc3Latch data) s = .next { s with answer := .done }) ∧
  (∀ (s : State) (data : Byte), s.cfg.rtcWired = true → (s.rtc.lastLatch = true ∨ data.toNat % 2 = 0) →
    exec (.mbc3Latch data) s =
      .next { s with rtc := { s.rtc with lastLatch := decide (data.toNat % 2 = 1) }, answer := .done }) ∧
  (∀ (s : State) (data : Byte) (e : Nat), s.cfg.rtcWired = true → s.rtc.lastLatch = false → data.toNat % 2 = 1 →
    e = ((if s.rtc.dh.getLsbD 6 then s.rtc.haltTime else now s) - s.rtc.baseTime).toNat →
    ∃ t, exec (.mbc3Latch data) s = .next t ∧ OnlyRtc s t ∧
      t.nowCalls = s.nowCalls + (if s.rtc.dh.getLsbD 6 then 0 else 1) ∧
      t.rtc = { s.rtc with
        baseTime := t.rtc.baseTime, s := t.rtc.s, m := t.rtc.m, h := t.rtc.h, dl := t.rtc.dl, dh := t.rtc.dh,
        lastLatch := true } ∧
      t.rtc.baseTime = s.rtc.baseTime + seconds (e / 44236800 * 44236800) ∧
      t.rtc.s.toNat = e % 60 ∧ t.rtc.m.toNat = e / 60 % 60 ∧ t.rtc.h.toNat = e / 3600 % 24 ∧
      t.rtc.dl.toNat = e / 86400 % 256 ∧
      t.rtc.dh.getLsbD 0 = decide (e / 86400 % 512 ≥ 256) ∧
      t.rtc.dh.getLsbD 7 = (s.rtc.dh.getLsbD 7 || decide (512 ≤ e / 86400)) ∧
      t.rtc.dh.extractLsb' 1 6 = s.rtc.dh.extractLsb' 1 6)

/-- A write of S, M, H or DL stores the byte and moves the running clock so that it shows the byte in that field, the rest
of the time unchanged (spec/41_rtc_mbc3.md R176 to R179, which the spec supplies itself, decision D20; log 13). -/
def Obligations.RtcFieldWrites : Prop :=
  ∀ (s : State) (data : Byte) (e : Time), e = rtcElapsed (now s) s.rtc →
    (∃ t, exec (.rtcWrS data) s = .next t ∧ OnlyRtc s t ∧ t.nowCalls = s.nowCalls + 1 ∧
      t.rtc = { s.rtc with baseTime := t.rtc.baseTime, s := data } ∧
      rtcElapsed (now s) t.rtc = e - seconds (e.toNat % 60) + seconds data.toNat) ∧
    (∃ t, exec (.rtcWrM data) s = .next t ∧ OnlyRtc s t ∧ t.nowCalls = s.nowCalls + 1 ∧
      t.rtc = { s.rtc with baseTime := t.rtc.baseTime, m := data } ∧
      rtcElapsed (now s) t.rtc = e - seconds (e.toNat / 60 % 60 * 60) + seconds (data.toNat * 60)) ∧
    (∃ t, exec (.rtcWrH data) s = .next t ∧ OnlyRtc s t ∧ t.nowCalls = s.nowCalls + 1 ∧
      t.rtc = { s.rtc with baseTime := t.rtc.baseTime, h := data } ∧
      rtcElapsed (now s) t.rtc = e - seconds (e.toNat / 3600 % 24 * 3600) + seconds (data.toNat * 3600)) ∧
    (∃ t, exec (.rtcWrDl data) s = .next t ∧ OnlyRtc s t ∧ t.nowCalls = s.nowCalls + 1 ∧
      t.rtc = { s.rtc with baseTime := t.rtc.baseTime, dl := data } ∧
      rtcElapsed (now s) t.rtc = e - seconds (e.toNat / 86400 % 256 * 86400) + seconds (data.toNat * 86400))

/-- A write of DH stores the byte, replaces bit 8 of the running day count, and halts or resumes the clock without a jump:
just after it the clock shows the same time but for that bit, and while halted it shows it for ever
(spec/41_rtc_mbc3.md R180, R184, which the spec supplies itself, decision D20; log 13). -/
def Obligations.RtcDayHighWrite : Prop :=
  ∀ (s : State) (data : Byte) (e : Time), e = rtcElapsed (now s) s.rtc →
    ∃ t, exec (.rtcWrDh data) s = .next t ∧ OnlyRtc s t ∧ t.nowCalls = s.nowCalls + 1 ∧
      t.rtc = { s.rtc with baseTime := t.rtc.baseTime, haltTime := t.rtc.haltTime, dh := data } ∧
      t.rtc.haltTime = (if s.rtc.dh.getLsbD 6 = false ∧ data.getLsbD 6 = true then now s else s.rtc.haltTime) ∧
      (∀ v : Time, (v = now s ∨ data.getLsbD 6 = true) →
        rtcElapsed v t.rtc =
          e - seconds (e.toNat / 86400 / 256 % 2 * (256 * 86400)) + seconds (data.toNat % 2 * (256 * 86400)))

/-! ## The TPP1 extension -/

/-- In map mode 0 the register window shows MR0 to MR2 as last written and the status byte, and a read changes nothing
(spec/42_tpp1_extension.md R201). -/
def Obligations.TxMapperRegisterReads : Prop :=
  (∀ s : State, ∃ b0 b1 b2 b3 : Byte,
    exec .txRdMr0 s = .next { s with answer := .byte b0 } ∧ b0.toNat = s.mapper.rombank.toNat % 256 ∧
    exec .txRdMr1 s = .next { s with answer := .byte b1 } ∧ b1.toNat = s.mapper.rombank.toNat / 256 ∧
    exec .txRdMr2 s = .next { s with answer := .byte b2 } ∧ b2 = s.mapper.rambank ∧
    exec .txRdMr3 s = .next { s with answer := .byte b3 } ∧
    b3.toNat = 0xF0 + 8 * bit s.tx.overflow + 4 * bit s.tx.running + s.tx.rumble.toNat) ∧
  (∀ (m : DecodeMode) (t : Word), m.variant = .tpp1 → m.re = true → m.rtcEn = true → m.curmap = 0#2 →
    t.extractLsb' 21 4 = 0b0101#4 →
    decode m t = (if t.extractLsb' 8 2 = 0#2 then .txRdMr0
      else if t.extractLsb' 8 2 = 1#2 then .txRdMr1
      else if t.extractLsb' 8 2 = 2#2 then .txRdMr2
      else .txRdMr3)) ∧
  (∀ (c : Cfg) (rom : Memory), c.txRunningReset = false →
    exec .txRdMr0 (State.resetFor c rom) = .next { State.resetFor c rom with answer := .byte 0x01#8 } ∧
    exec .txRdMr1 (State.resetFor c rom) = .next { State.resetFor c rom with answer := .byte 0x00#8 } ∧
    exec .txRdMr2 (State.resetFor c rom) = .next { State.resetFor c rom with answer := .byte 0x00#8 } ∧
    exec .txRdMr3 (State.resetFor c rom) = .next { State.resetFor c rom with answer := .byte 0xF0#8 })

/-- In map mode 3 the register window shows the latched W, H, M, S and a read changes nothing; without the clock feature
the window reads `0xFF` (spec/42_tpp1_extension.md R202). -/
def Obligations.TxClockRegisterReads : Prop :=
  (∀ s : State,
    exec .txRdW s = .next { s with answer := .byte s.tx.w } ∧
    exec .txRdH s = .next { s with answer := .byte s.tx.h } ∧
    exec .txRdM s = .next { s with answer := .byte s.tx.m } ∧
    exec .txRdS s = .next { s with answer := .byte s.tx.s }) ∧
  (∀ (m : DecodeMode) (t : Word), m.variant = .tpp1 → m.re = true → m.rtcEn = true → m.curmap = 3#2 →
    t.extractLsb' 21 4 = 0b0101#4 →
    decode m t = (if t.extractLsb' 8 2 = 0#2 then .txRdW
      else if t.extractLsb' 8 2 = 1#2 then .txRdH
      else if t.extractLsb' 8 2 = 2#2 then .txRdM
      else .txRdS)) ∧
  (∀ (s : State) (off : BitVec 13), Invariant s → s.cfg.variant = .tpp1 → s.mapper.mapmode = 3#2 →
    s.cfg.features.getLsbD 2 = false → exec (.rdXram off) s = .next { s with answer := .byte 0xFF#8 })

/-- A write to the register window in map mode 3 changes the one latched byte and nothing else; elsewhere it is ignored
(spec/42_tpp1_extension.md R203; that all 8 bits are stored is decision D32). -/
def Obligations.TxClockRegisterWrites : Prop :=
  (∀ (s : State) (data : Byte), s.tx.curmap = 3#2 →
    exec (.txWrW data) s = .next { s with tx := { s.tx with w := data }, answer := .done } ∧
    exec (.txWrH data) s = .next { s with tx := { s.tx with h := data }, answer := .done } ∧
    exec (.txWrM data) s = .next { s with tx := { s.tx with m := data }, answer := .done } ∧
    exec (.txWrS data) s = .next { s with tx := { s.tx with s := data }, answer := .done }) ∧
  (∀ (s : State) (data : Byte), s.tx.curmap ≠ 3#2 →
    exec (.txWrW data) s = .next { s with answer := .done } ∧
    exec (.txWrH data) s = .next { s with answer := .done } ∧
    exec (.txWrM data) s = .next { s with answer := .done } ∧
    exec (.txWrS data) s = .next { s with answer := .done })

/-- TPP1.LATCH (spec/42_tpp1_extension.md R204, spec/49_tpp1.md R308): the running or frozen time is split into W, H, M, S,
whole 256-week periods moving the base time and setting the sticky overflow flag. That the time is reduced by the
periods is the spec's own reading (decision D29). -/
def Obligations.TxLatch : Prop :=
  ∀ (s : State) (e : Nat), e = ((if s.tx.running then now s else s.tx.haltTime) - s.tx.baseTime).toNat →
    ∃ t, exec .tpp1Latch s = .next t ∧ OnlyTx s t ∧
      t.nowCalls = s.nowCalls + (if s.tx.running then 1 else 0) ∧
      t.tx = { s.tx with
        baseTime := t.tx.baseTime, w := t.tx.w, h := t.tx.h, m := t.tx.m, s := t.tx.s, overflow := t.tx.overflow } ∧
      t.tx.baseTime = s.tx.baseTime + seconds (e / 154828800 * 154828800) ∧
      t.tx.w.toNat = e / 604800 % 256 ∧ t.tx.h.toNat = e / 86400 % 7 * 32 + e / 3600 % 24 ∧
      t.tx.m.toNat = e / 60 % 60 ∧ t.tx.s.toNat = e % 60 ∧
      t.tx.overflow = (s.tx.overflow || decide (154828800 ≤ e))

/-- The decomposition law (spec/42_tpp1_extension.md R212). -/
def Obligations.TxDecompositionLaw : Prop :=
  ∀ s : State, ∃ t, exec .tpp1Latch s = .next t ∧
    ((txElapsed (now s) s.tx).toNat < 154828800 →
      t.tx.w.toNat * 604800 + t.tx.h.toNat / 32 % 8 * 86400 + t.tx.h.toNat % 32 * 3600 + t.tx.m.toNat * 60
        + t.tx.s.toNat = (txElapsed (now s) s.tx).toNat) ∧
    t.tx.w.toNat ≤ 255 ∧ t.tx.h.toNat / 32 ≤ 6 ∧ t.tx.h.toNat % 32 ≤ 23 ∧ t.tx.m.toNat ≤ 59 ∧ t.tx.s.toNat ≤ 59

/-- TPP1.SETTIME (spec/42_tpp1_extension.md R205, spec/49_tpp1.md R309): the base time moves so that the clock shows the
latched bytes, which stay; and a latch at the same time gives bytes in range back. That the reference time is the one the
latch uses is the spec's own choice (decision D28). -/
def Obligations.TxSettimeThenLatch : Prop :=
  ∀ (s : State) (v : Nat),
    v = s.tx.w.toNat * 604800 + s.tx.h.toNat / 32 * 86400 + s.tx.h.toNat % 32 * 3600 + s.tx.m.toNat * 60
      + s.tx.s.toNat →
    ∃ t, exec .tpp1Settime s = .next t ∧ OnlyTx s t ∧
      t.nowCalls = s.nowCalls + (if s.tx.running then 1 else 0) ∧
      t.tx = { s.tx with baseTime := t.tx.baseTime } ∧
      t.tx.baseTime = (if s.tx.running then now s else s.tx.haltTime) - seconds v ∧
      txElapsed (now s) t.tx = seconds v ∧
      (s.tx.h.toNat / 32 ≤ 6 → s.tx.h.toNat % 32 ≤ 23 → s.tx.m.toNat ≤ 59 → s.tx.s.toNat ≤ 59 →
        exec .tpp1Latch t = .next { t with nowCalls := t.nowCalls + (if s.tx.running then 1 else 0) })

/-- TPP1.HALT and TPP1.RESUME (spec/42_tpp1_extension.md R206, R207, R216): a halt freezes the time shown, a resume goes on
from it, and each does nothing where the clock is already halted or running. That guard is the spec's own choice
(decision D27). -/
def Obligations.TxHaltAndResume : Prop :=
  (∀ s : State, s.tx.running = true →
    ∃ t, exec .tpp1Halt s = .next t ∧ OnlyTx s t ∧ t.nowCalls = s.nowCalls + 1 ∧
      t.tx = { s.tx with haltTime := now s, running := false } ∧
      ∀ v : Time, txElapsed v t.tx = txElapsed (now s) s.tx) ∧
  (∀ s : State, s.tx.running = false → exec .tpp1Halt s = .next { s with answer := .done }) ∧
  (∀ s : State, s.tx.running = false →
    ∃ t, exec .tpp1Resume s = .next t ∧ OnlyTx s t ∧ t.nowCalls = s.nowCalls + 1 ∧
      t.tx = { s.tx with baseTime := s.tx.baseTime + (now s - s.tx.haltTime), running := true } ∧
      txElapsed (now s) t.tx = s.tx.haltTime - s.tx.baseTime) ∧
  (∀ s : State, s.tx.running = true → exec .tpp1Resume s = .next { s with answer := .done })

/-- The overflow flag is sticky: only a latch that finds a full period sets it, only command `0x14` clears it
(spec/10_state.md R50, spec/42_tpp1_extension.md R208). -/
def Obligations.OverflowIsSticky : Prop :=
  (∀ s : State, exec .tpp1Clrovf s = .next { s with tx := { s.tx with overflow := false }, answer := .done }) ∧
  (∀ (m : DecodeMode) (t : Word), m.variant = .tpp1 → t.extractLsb' 22 3 = 0b100#3 → t.extractLsb' 8 2 = 0b11#2 →
    t.extractLsb' 0 8 = 0x14#8 → decode m t = .tpp1Clrovf) ∧
  (∀ (i : Instr) (s t : State), exec i s = .next t →
    (s.tx.overflow = true → t.tx.overflow = false → i = .tpp1Clrovf) ∧
    (s.tx.overflow = false → t.tx.overflow = true →
      i = .tpp1Latch ∧ 154828800 ≤ (txElapsed (now s) s.tx).toNat)) ∧
  (∀ s : State, 154828800 ≤ (txElapsed (now s) s.tx).toNat →
    ∃ t, exec .tpp1Latch s = .next t ∧ t.tx.overflow = true)

/-- Only the halt command stops the TPP1 clock and only the resume command starts it (spec/10_state.md R51). -/
def Obligations.RunningChangedOnlyByHaltAndResume : Prop :=
  (∀ (i : Instr) (s t : State), exec i s = .next t → t.tx.running ≠ s.tx.running →
    (i = .tpp1Halt ∧ t.tx.running = false) ∨ (i = .tpp1Resume ∧ t.tx.running = true)) ∧
  (∀ s : State, (∃ t, exec .tpp1Halt s = .next t ∧ t.tx.running = false) ∧
    (∃ t, exec .tpp1Resume s = .next t ∧ t.tx.running = true))

/-- TPP1.RUMBLE stores the level and is the only operation that changes it (spec/49_tpp1.md R313,
spec/42_tpp1_extension.md R209, spec/10_state.md R48). That it is accepted whatever the features are is decision D30. -/
def Obligations.RumbleLevel : Prop :=
  (∀ (s : State) (level : BitVec 2),
    exec (.tpp1Rumble level) s = .next { s with tx := { s.tx with rumble := level }, answer := .done }) ∧
  (∀ (m : DecodeMode) (t : Word), m.variant = .tpp1 → t.extractLsb' 22 3 = 0b100#3 → t.extractLsb' 8 2 = 0b11#2 →
    t.extractLsb' 2 6 = 0b001000#6 → decode m t = .tpp1Rumble (t.extractLsb' 0 2)) ∧
  (∀ (i : Instr) (s t : State), exec i s = .next t → t.tx.rumble ≠ s.tx.rumble → i = .tpp1Rumble t.tx.rumble)

/-! ## Control registers -/

/-- PLAIN, MBC2 and MBC1-Multi64 RAM enable: the flag, both access flags, RAM bank 0, and nothing else
(spec/43_common_plain.md R231, R235, spec/45_mbc2.md R261, spec/44_mbc1_multi64.md R250; the last by decision D23). -/
def Obligations.RamEnableAtBankZero : Prop :=
  ∀ (s : State) (data : Byte) (i : Instr), i ∈ [Instr.plainRamen data, .mbc2Ramen data, .m64Ramen data] →
    s.cfg.legal = true →
    ∃ t, exec i s = .next t ∧ OnlyMapperAndWindows s t ∧
      t.mapper = { s.mapper with enableRam := decide (data.toNat % 16 = 10) } ∧
      t.win = { s.win with
        ram := 0#8, re := decide (data.toNat % 16 = 10), we := decide (data.toNat % 16 = 10), rtcEn := false }

/-- MBC1 and MBC5 RAM enable: the flag, both access flags, the RAM bank `M.rambank` taken modulo the number of banks, and
nothing else (spec/44_mbc1_multi64.md R240, R244, spec/48_mbc5.md R291; the RAM mask is decision D12). -/
def Obligations.RamEnableBanked : Prop :=
  ∀ (s : State) (data : Byte) (i : Instr), i ∈ [Instr.mbc1Ramen data, .mbc5Ramen data] → s.cfg.legal = true →
    ∃ t, exec i s = .next t ∧ OnlyMapperAndWindows s t ∧
      t.mapper = { s.mapper with enableRam := decide (data.toNat % 16 = 10) } ∧
      t.win = { s.win with
        ram := t.win.ram, re := decide (data.toNat % 16 = 10), we := decide (data.toNat % 16 = 10), rtcEn := false } ∧
      t.win.ram.toNat = ramBankNumber s.cfg s.mapper.rambank.toNat

/-- MBC3 RAM enable and RAM bank: all eight bits are kept, the access flags follow the enable, and with a clock the values
`0x08` to `0x0C` put a clock register in the window (spec/46_mbc3.md R271, R273, R275, spec/41_rtc_mbc3.md R171). The
register numbers above `0x08`, the RAM mask and the selection by the bank value alone are decisions D16, D12, D18. -/
def Obligations.Mbc3RamEnableAndBank : Prop :=
  ∀ (s : State) (data : Byte) (i : Instr) (enable : Bool) (bank : Byte), s.cfg.legal = true →
    (i = .mbc3Ramen data ∧ enable = decide (data.toNat % 16 = 10) ∧ bank = s.mapper.rambank ∨
      i = .mbc3Ramb data ∧ enable = s.mapper.enableRam ∧ bank = data) →
    ∃ t, exec i s = .next t ∧
      t = { s with mapper := t.mapper, win := t.win, rtc := t.rtc, answer := .done } ∧ SameImages s t ∧
      t.mapper = { s.mapper with enableRam := enable, rambank := bank } ∧
      t.win = { s.win with
        ram := t.win.ram, re := enable, we := enable
        rtcEn := s.cfg.rtcWired && decide (0x08 ≤ bank.toNat ∧ bank.toNat ≤ 0x0C) } ∧
      t.win.ram.toNat = ramBankNumber s.cfg bank.toNat ∧
      (s.cfg.rtcWired = false → t.rtc = s.rtc) ∧
      (s.cfg.rtcWired = true →
        t.rtc = { s.rtc with
          active := decide (0x08 ≤ bank.toNat ∧ bank.toNat ≤ 0x0C)
          index := if bank.toNat = 0x09 then .m else if bank.toNat = 0x0A then .h else if bank.toNat = 0x0B then .dl
            else if bank.toNat = 0x0C then .dh else .s })

/-- HuC1 RAM enable gates writes only: RAM stays readable (spec/47_huc1.md R280, R281). The RAM bank in mode 0 is decision
D12. -/
def Obligations.Huc1RamEnable : Prop :=
  ∀ (s : State) (data : Byte), s.cfg.legal = true →
    ∃ t, exec (.huc1Ramen data) s = .next t ∧ OnlyMapperAndWindows s t ∧
      t.mapper = { s.mapper with enableRam := decide (data.toNat % 16 = 10) } ∧
      t.win = { s.win with ram := t.win.ram, re := true, we := decide (data.toNat % 16 = 10), rtcEn := false } ∧
      t.win.ram.toNat = (if s.mapper.ramBankMode then ramBankNumber s.cfg s.mapper.rambank.toNat else 0)

/-- HuC1 bank and mode writes: in mode 0 the two RAM-bank bits stand above the six ROM-bank bits and the RAM window shows
bank 0, in mode 1 they are the RAM bank; no adjust (spec/47_huc1.md R280, R282 to R284). The re-aim of region 1, the RAM
mask and the RAM bank in mode 0 are decisions D11 and D12. -/
def Obligations.Huc1BankAndModeWrites : Prop :=
  ∀ (s : State) (data : Byte) (i : Instr) (rombank rambank : Nat) (mode : Bool), Invariant s → s.cfg.variant = .huc1 →
    (i = .huc1Romb data ∧ rombank = data.toNat % 64 ∧ rambank = s.mapper.rambank.toNat ∧ mode = s.mapper.ramBankMode ∨
      i = .huc1Ramb data ∧ rombank = s.mapper.rombank.toNat ∧ rambank = data.toNat % 4 ∧ mode = s.mapper.ramBankMode ∨
      i = .huc1Mode data ∧ rombank = s.mapper.rombank.toNat ∧ rambank = s.mapper.rambank.toNat ∧
        mode = decide (data.toNat % 2 = 1)) →
    ∃ t, exec i s = .next t ∧ OnlyMapperAndWindows s t ∧
      t.mapper = { s.mapper with rombank := t.mapper.rombank, rambank := t.mapper.rambank, ramBankMode := mode } ∧
      t.mapper.rombank.toNat = rombank ∧ t.mapper.rambank.toNat = rambank ∧
      t.win = { s.win with rom := t.win.rom, ram := t.win.ram } ∧
      t.win.rom.toNat = (if mode then rombank else rambank * 64 + rombank) % s.cfg.rombanks ∧
      t.win.ram.toNat = (if mode then ramBankNumber s.cfg rambank else 0)

/-- MBC1 bank writes: BANK1 replaces the low five bits and in RAM mode clears the upper two, BANK2 feeds the RAM bank in RAM
mode and the upper two ROM bits otherwise; the high window shows the adjusted bank modulo the ROM size
(spec/44_mbc1_multi64.md R241, R242, R244, spec/43_common_plain.md R232, R233). That the register keeps the value
unadjusted and the RAM mask are decisions D15 and D12. -/
def Obligations.Mbc1BankWrites : Prop :=
  (∀ (s : State) (data : Byte) (bank : Nat), Invariant s → s.cfg.variant = .mbc1 →
    bank = (if s.mapper.ramBankMode then 0 else s.mapper.rombank.toNat / 32 * 32) + data.toNat % 32 →
    ∃ t, exec (.mbc1Bank1 data) s = .next t ∧ OnlyMapperAndWindows s t ∧
      t.mapper = { s.mapper with rombank := t.mapper.rombank } ∧ t.mapper.rombank.toNat = bank ∧
      t.win = { s.win with rom := t.win.rom } ∧ t.win.rom.toNat = adjustedNumber bank % s.cfg.rombanks) ∧
  (∀ (s : State) (data : Byte) (bank : Nat), Invariant s → s.cfg.variant = .mbc1 → s.mapper.ramBankMode = false →
    bank = data.toNat % 4 * 32 + s.mapper.rombank.toNat % 32 →
    ∃ t, exec (.mbc1Bank2 data) s = .next t ∧ OnlyMapperAndWindows s t ∧
      t.mapper = { s.mapper with rombank := t.mapper.rombank } ∧ t.mapper.rombank.toNat = bank ∧
      t.win = { s.win with rom := t.win.rom } ∧ t.win.rom.toNat = adjustedNumber bank % s.cfg.rombanks) ∧
  (∀ (s : State) (data : Byte), Invariant s → s.cfg.variant = .mbc1 → s.mapper.ramBankMode = true →
    ∃ t, exec (.mbc1Bank2 data) s = .next t ∧ OnlyMapperAndWindows s t ∧
      t.mapper = { s.mapper with rambank := t.mapper.rambank } ∧ t.mapper.rambank.toNat = data.toNat % 4 ∧
      t.win = { s.win with ram := t.win.ram } ∧ t.win.ram.toNat = ramBankNumber s.cfg (data.toNat % 4))

/-- The MBC1 mode bit moves no window; it decides what the next bank writes do: in RAM mode the next BANK1 clears
`M.rombank[6:5]`, which stay in force till then, and the next BANK2 in ROM mode leaves `M.rambank` in force
(spec/44_mbc1_multi64.md R243). -/
def Obligations.Mbc1ModeMovesNoWindow : Prop :=
  (∀ (m : DecodeMode) (t : Word), m.variant = .mbc1 → t.extractLsb' 21 4 = 0b1011#4 →
    decode m t = .mbc1Mode (t.extractLsb' 0 8)) ∧
  (∀ (s : State) (data : Byte),
    ∃ t, exec (.mbc1Mode data) s = .next t ∧
      t = { s with mapper := { s.mapper with ramBankMode := decide (data.toNat % 2 = 1) }, answer := .done } ∧
      SameImages s t ∧
      (data.toNat % 2 = 1 → ∀ data' : Byte, ∃ u, exec (.mbc1Bank1 data') t = .next u ∧
        u.mapper = { t.mapper with rombank := u.mapper.rombank } ∧ u.mapper.rombank.toNat = data'.toNat % 32) ∧
      (data.toNat % 2 = 0 → ∀ data' : Byte, ∃ u, exec (.mbc1Bank2 data') t = .next u ∧
        u.mapper = { t.mapper with rombank := u.mapper.rombank } ∧
        u.win = { s.win with rom0 := u.win.rom0, rom := u.win.rom }))

/-- MBC1-Multi64 writes: BANK1 and BANK2 always keep the other part, MODE re-aims at once; in multicart mode both windows
show the sub-cart (spec/44_mbc1_multi64.md R251 to R254, R257). The write decoder and the mode-clear arm are decisions D23
and D24. -/
def Obligations.M64BankAndModeWrites : Prop :=
  ∀ (s : State) (data : Byte) (i : Instr) (bank : Nat) (mode : Bool), Invariant s → s.cfg.variant = .mbc1m64 →
    (i = .m64Bank1 data ∧ bank = s.mapper.rombank.toNat / 32 * 32 + data.toNat % 32 ∧ mode = s.mapper.ramBankMode ∨
      i = .m64Bank2 data ∧ bank = data.toNat % 4 * 32 + s.mapper.rombank.toNat % 32 ∧ mode = s.mapper.ramBankMode ∨
      i = .m64Mode data ∧ bank = s.mapper.rombank.toNat ∧ mode = decide (data.toNat % 2 = 1)) →
    ∃ t, exec i s = .next t ∧ OnlyMapperAndWindows s t ∧
      t.mapper = { s.mapper with rombank := t.mapper.rombank, ramBankMode := mode } ∧ t.mapper.rombank.toNat = bank ∧
      t.win = { s.win with rom0 := t.win.rom0, rom := t.win.rom } ∧
      t.win.rom0.toNat = (if mode then bank / 32 * 16 else 0) ∧
      t.win.rom.toNat = (if mode then adjustedNumber (bank / 32 * 16 + bank % 16) else adjustedNumber bank % 64)

/-- MBC2.ROMB: four bits, no adjust, masked by the ROM size; at every address whose bits 14, 13 and 8 are 0, 1 and 1
(spec/45_mbc2.md R262). -/
def Obligations.Mbc2RomBank : Prop :=
  (∀ (m : DecodeMode) (t : Word), m.variant = .mbc2 → t.extractLsb' 21 4 = 0b1001#4 → t.getLsbD 16 = true →
    decode m t = .mbc2Romb (t.extractLsb' 0 8)) ∧
  (∀ (s : State) (data : Byte), Invariant s → s.cfg.variant = .mbc2 →
    ∃ t, exec (.mbc2Romb data) s = .next t ∧ OnlyMapperAndWindows s t ∧
      t.mapper = { s.mapper with rombank := t.mapper.rombank } ∧ t.mapper.rombank.toNat = data.toNat % 16 ∧
      t.win = { s.win with rom := t.win.rom } ∧ t.win.rom.toNat = data.toNat % 16 % s.cfg.rombanks)

/-- MBC3.ROMB: seven bits stored as written, the window aimed at bank 1 when they are zero, masked by the ROM size
(spec/46_mbc3.md R272). -/
def Obligations.Mbc3RomBank : Prop :=
  (∀ (m : DecodeMode) (t : Word), m.variant = .mbc3 → t.extractLsb' 21 4 = 0b1001#4 →
    decode m t = .mbc3Romb (t.extractLsb' 0 8)) ∧
  (∀ (s : State) (data : Byte), Invariant s → s.cfg.variant = .mbc3 →
    ∃ t, exec (.mbc3Romb data) s = .next t ∧ OnlyMapperAndWindows s t ∧
      t.mapper = { s.mapper with rombank := t.mapper.rombank } ∧ t.mapper.rombank.toNat = data.toNat % 128 ∧
      t.win = { s.win with rom := t.win.rom } ∧
      t.win.rom.toNat = (if data.toNat % 128 = 0 then 1 else data.toNat % 128) % s.cfg.rombanks)

/-- The ignored control-register writes complete and change no state: PLAIN regions 1 to 3, MBC2 outside its two
registers, MBC5 region 3, TPP1 at `0x4000..0x7FFF` and its unnamed MR3 codes (spec/43_common_plain.md R236,
spec/45_mbc2.md R263, spec/48_mbc5.md R295, spec/49_tpp1.md R314, R315). -/
def Obligations.IgnoredWritesChangeNothing : Prop :=
  (∀ (s : State) (data : Byte) (i : Instr),
    i ∈ [Instr.plainIgnR1 data, .plainIgnR23 data, .mbc2Ign0100 data, .mbc2Ign2000 data, .mbc2IgnHi data, .mbc5Ign data,
      .tpp1Mr3ign data, .tpp1Ign data] →
    exec i s = .next { s with answer := .done }) ∧
  (∀ (s : State) (m : DecodeMode) (a : Addr) (data : Byte), a.toNat < 0x8000 →
    (m.variant = .plain ∧ 0x2000 ≤ a.toNat ∨
      m.variant = .mbc2 ∧ a &&& 0x6100#16 ≠ 0x0000#16 ∧ a &&& 0x6100#16 ≠ 0x2100#16 ∨
      m.variant = .mbc5 ∧ 0x6000 ≤ a.toNat ∨
      m.variant = .tpp1 ∧ 0x4000 ≤ a.toNat ∨
      m.variant = .tpp1 ∧ a.toNat < 0x4000 ∧ a.toNat % 4 = 3 ∧
        data.toNat ∉ [0x00, 0x02, 0x03, 0x05, 0x10, 0x11, 0x14, 0x18, 0x19, 0x20, 0x21, 0x22, 0x23]) →
    exec (decode m (pack true a data)) s = .next { s with answer := .done })

/-- MBC5 bank writes: the low byte and bit 8 of the 9-bit bank apart, each keeping the other, bank 0 legal; four bits of RAM
bank (spec/48_mbc5.md R292 to R294, R297). The re-aims and the RAM mask are decisions D11 and D12. -/
def Obligations.Mbc5BankWrites : Prop :=
  (∀ (s : State) (data : Byte) (i : Instr) (bank : Nat), Invariant s → s.cfg.variant = .mbc5 →
    (i = .mbc5Romb0 data ∧ bank = s.mapper.rombank.toNat / 256 * 256 + data.toNat ∨
      i = .mbc5Romb1 data ∧ bank = data.toNat % 2 * 256 + s.mapper.rombank.toNat % 256) →
    ∃ t, exec i s = .next t ∧ OnlyMapperAndWindows s t ∧
      t.mapper = { s.mapper with rombank := t.mapper.rombank } ∧ t.mapper.rombank.toNat = bank ∧
      t.win = { s.win with rom := t.win.rom } ∧ t.win.rom.toNat = bank % s.cfg.rombanks) ∧
  (∀ (s : State) (data : Byte), Invariant s → s.cfg.variant = .mbc5 →
    ∃ t, exec (.mbc5Ramb data) s = .next t ∧ OnlyMapperAndWindows s t ∧
      t.mapper = { s.mapper with rambank := t.mapper.rambank } ∧ t.mapper.rambank.toNat = data.toNat % 16 ∧
      t.win = { s.win with ram := t.win.ram } ∧ t.win.ram.toNat = ramBankNumber s.cfg (data.toNat % 16))

/-- TPP1 MR0, MR1, MR2: the low and the high byte of the 16-bit ROM bank, each keeping the other, and the RAM bank
(spec/49_tpp1.md R301 to R303). The ROM mask and the RAM mask are decisions D25 and D12. -/
def Obligations.Tpp1BankRegisterWrites : Prop :=
  (∀ (s : State) (data : Byte) (i : Instr) (bank : Nat), Invariant s → s.cfg.variant = .tpp1 →
    (i = .tpp1Mr0 data ∧ bank = s.mapper.rombank.toNat / 256 * 256 + data.toNat ∨
      i = .tpp1Mr1 data ∧ bank = data.toNat * 256 + s.mapper.rombank.toNat % 256) →
    ∃ t, exec i s = .next t ∧ OnlyMapperAndWindows s t ∧
      t.mapper = { s.mapper with rombank := t.mapper.rombank } ∧ t.mapper.rombank.toNat = bank ∧
      t.win = { s.win with rom := t.win.rom } ∧ t.win.rom.toNat = bank % s.cfg.rombanks) ∧
  (∀ (s : State) (data : Byte), Invariant s → s.cfg.variant = .tpp1 →
    ∃ t, exec (.tpp1Mr2 data) s = .next t ∧ OnlyMapperAndWindows s t ∧
      t.mapper = { s.mapper with rambank := data } ∧
      t.win = { s.win with ram := t.win.ram } ∧ t.win.ram.toNat = ramBankNumber s.cfg data.toNat)

/-- The map mode commands set `mapmode` and `curmap` and give the RAM window its personality, the bank unchanged; in mode 3
without the clock feature there is no access (spec/49_tpp1.md R304 to R307). -/
def Obligations.Tpp1MapModeCommands : Prop :=
  (∀ (m : DecodeMode) (t : Word), m.variant = .tpp1 → t.extractLsb' 22 3 = 0b100#3 → t.extractLsb' 8 2 = 0b11#2 →
    (t.extractLsb' 0 8 = 0x00#8 → decode m t = .tpp1Map0) ∧ (t.extractLsb' 0 8 = 0x02#8 → decode m t = .tpp1Map1) ∧
    (t.extractLsb' 0 8 = 0x03#8 → decode m t = .tpp1Map2) ∧ (t.extractLsb' 0 8 = 0x05#8 → decode m t = .tpp1Map3)) ∧
  (∀ (s : State) (i : Instr) (k : BitVec 2) (re we rtcEn : Bool), Invariant s → s.cfg.variant = .tpp1 →
    (i = .tpp1Map0 ∧ k = 0#2 ∧ re = true ∧ we = false ∧ rtcEn = true ∨
      i = .tpp1Map1 ∧ k = 1#2 ∧ re = true ∧ we = false ∧ rtcEn = false ∨
      i = .tpp1Map2 ∧ k = 2#2 ∧ re = true ∧ we = true ∧ rtcEn = false ∨
      i = .tpp1Map3 ∧ k = 3#2 ∧ re = s.cfg.features.getLsbD 2 ∧ we = s.cfg.features.getLsbD 2 ∧
        rtcEn = s.cfg.features.getLsbD 2) →
    ∃ t, exec i s = .next t ∧ SameImages s t ∧
      t = { s with
        mapper := { s.mapper with mapmode := k }, tx := { s.tx with curmap := k }
        win := { s.win with re := re, we := we, rtcEn := rtcEn }, answer := .done } ∧
      (re = false → ∀ (off : BitVec 13) (data : Byte),
        exec (.rdXram off) t = .next { t with answer := .byte 0xFF#8 } ∧ exec (.wrXram off data) t = .next t))

/-! ## Invariants and whole-machine rules -/

/-- The state after reset meets the invariant. The configuration of `State.reset` is the model's choice (log 2). -/
def Obligations.ResetMeetsInvariant : Prop := Invariant State.reset

/-- After the reset of any legal configuration and ROM image the invariant holds: the windows are where `sync()` puts them
in every variant (spec/10_state.md R31, R60, spec/70_reset_and_hazards.md R371; the reset values marked there are
decisions D9, D10, D22). -/
def Obligations.EveryResetMeetsInvariant : Prop :=
  ∀ (c : Cfg) (rom : Memory), c.legal = true → rom.Fits romBlank c.romSize → Invariant (State.resetFor c rom)

/-- The invariant is kept by every step: the registers stay in their ranges, the windows stay where `sync()` puts them, the
clock selection and map mode stay in step, the images stay canonical and inside their sizes (spec/10_state.md R23 to R27,
R31, R42, R43, R52). Any request may be waiting but one: `Invariant.requests` asks that every `load_state` in the queue hold
a record that is `Snapshot.Legal`, so nothing is said of a host that hands back a forged record. That is the model's choice
(log 28). -/
def Obligations.StepKeepsInvariant : Prop :=
  ∀ s s' : State, Invariant s → step s = .next s' → Invariant s'

/-- The windows never leave the images (spec/10_state.md R32). -/
def Obligations.WindowsStayInsideImages : Prop :=
  ∀ s : State, Invariant s →
    s.win.rom0.toNat < s.cfg.rombanks ∧ s.win.rom.toNat < s.cfg.rombanks ∧
    (0 < s.cfg.rambanks → s.win.ram.toNat < s.cfg.rambanks) ∧
    ∀ off : BitVec 14, romIndex s.win.rom off < s.cfg.romSize

/-- Where the windows stand, which access flags are set and which clock register is selected is a function of the
configuration and the mapper registers (spec/10_state.md R31, R42, R52, which the spec derives in part). -/
def Obligations.WindowsAreFunctionOfRegisters : Prop :=
  ∀ s u : State, Invariant s → Invariant u → s.cfg = u.cfg → s.mapper = u.mapper →
    s.win = u.win ∧ s.tx.curmap = u.tx.curmap ∧
    (s.cfg.rtcWired = true → s.rtc.active = u.rtc.active ∧ s.rtc.index = u.rtc.index)

/-- `now()` is invoked at most once by a transaction, and only by a latch, a clock register write, `settime`, `halt` and
`resume` (spec/00_scope.md R10, spec/60_exceptions.md R360, spec/49_tpp1.md R317, which the spec derives in part). That MBC3
clock register writes invoke it is the spec's own extension of the list of R10 (R360, decision D20; log 13); that `halt`
does so only while the clock runs and `resume` only while it is halted is decision D27. The counter `nowCalls` is the
model's own (log 6). -/
def Obligations.NowOnlyInClockOperations : Prop :=
  ∀ (i : Instr) (s t : State), exec i s = .next t → t.nowCalls ≠ s.nowCalls →
    t.nowCalls = s.nowCalls + 1 ∧
    ((∃ data, i = .mbc3Latch data ∧ s.cfg.rtcWired = true ∧ s.rtc.lastLatch = false ∧ data.toNat % 2 = 1 ∧
        s.rtc.dh.getLsbD 6 = false) ∨
      (∃ data, i = .rtcWrS data ∨ i = .rtcWrM data ∨ i = .rtcWrH data ∨ i = .rtcWrDl data ∨ i = .rtcWrDh data) ∨
      (∃ off data, i = .wrXram off data ∧ s.win.we = true ∧ s.win.rtcEn = true ∧ s.cfg.variant ≠ .tpp1) ∨
      (i = .tpp1Latch ∧ s.tx.running = true) ∨ (i = .tpp1Settime ∧ s.tx.running = true) ∨
      (i = .tpp1Halt ∧ s.tx.running = true) ∨ (i = .tpp1Resume ∧ s.tx.running = false))

/-! ## Host operations -/

/-- A load whose checks pass resets the block with the configuration of the file: every register at its reset value, RAM
zero, ROM the file padded with `0xFF` (spec/60_exceptions.md R330, spec/70_reset_and_hazards.md R370, spec/10_state.md
R60; the reset values marked there are decisions D9, D10, D22). The model's choices: `TX.running` starts at the parameter
`TX_RUNNING_RESET` (log 9), which a load keeps, as it keeps the presence of a host clock, `hostNow`, `nowCalls`, `freeUses`
and the rest of the queue (log 26); the answer carries the `cgb` flag (log 25). -/
def Obligations.LoadRomResetsTheBlock : Prop :=
  ∀ (s : State) (bytes : List Byte) (forceDmg multicartCompat : Bool) (rest : List Request) (v : Variant) (c : Cfg),
    s.queue = .host (.loadRom bytes forceDmg multicartCompat) :: rest → checkRom bytes = .ok v →
    c = cfgOf v bytes multicartCompat s.cfg →
    ∃ t, step s = .next t ∧ t.cfg = c ∧
      t.mapper = ⟨1#16, 0#8, false, false, 0#2⟩ ∧
      t.win = ⟨0#16, 1#16, 0#8, c.variant == .huc1 || c.variant == .tpp1, false, c.variant == .tpp1⟩ ∧
      t.rtc = ⟨0#32, 0#32, 0#8, 0#8, 0#8, 0#8, 0#8, false, false, .s⟩ ∧
      t.tx = ⟨0#32, 0#32, 0#8, 0#8, 0#8, 0#8, 0#2, 0#2, (if c.variant = .tpp1 then c.features else 0#8),
        c.variant == .tpp1, c.txRunningReset, false⟩ ∧
      (∀ i, ramByte i t = 0#8) ∧ (∀ i, romByte i t = bytes.getD i 0xFF#8) ∧
      t.live = true ∧ t.queue = rest ∧ t.hostNow = s.hostNow ∧ t.nowCalls = s.nowCalls ∧ t.freeUses = s.freeUses ∧
      t.answer = .loaded ((bytes.getD 0x143 0#8).getLsbD 7 && !forceDmg)

/-- A failed load leaves every field of the state as it was (spec/60_exceptions.md R339); a file shorter than `0x154` bytes
fails as MalformedHeader (R330, R331, R338). That a failed load is a next state with the error as its answer is the model's
choice (log 25); the answer and the queue are its own fields (logs 1, 4). -/
def Obligations.FailedLoadChangesNothing : Prop :=
  (∀ (s t : State) (bytes : List Byte) (forceDmg multicartCompat : Bool) (rest : List Request) (e : LoadError),
    s.queue = .host (.loadRom bytes forceDmg multicartCompat) :: rest → step s = .next t → t.answer = .loadFailed e →
    t = { s with queue := rest, answer := .loadFailed e }) ∧
  (∀ (s : State) (bytes : List Byte) (forceDmg multicartCompat : Bool) (rest : List Request),
    s.queue = .host (.loadRom bytes forceDmg multicartCompat) :: rest → bytes.length < 0x154 →
    step s = .next { s with queue := rest, answer := .loadFailed .malformedHeader })

/-- The configuration a file gives (spec/60_exceptions.md R333 to R336): legal, with the fewest ROM banks that hold the
file (at least two), MBC1M64 exactly by the multicart heuristic, RAM banks from the RAM size code or the TPP1 header byte,
battery, save-data clock and wired clock from the type byte or the TPP1 features. The type table, the rounding of the file
size and the unlisted RAM codes are decision D36; an unlisted code gives the free value `RAMBANKS_UNLISTED`, of which only
that it is a power of two is claimed (logs 8, 13). -/
def Obligations.LoadedConfiguration : Prop :=
  ∀ (v : Variant) (bytes : List Byte) (multicartCompat : Bool) (old c : Cfg), checkRom bytes = .ok v →
    c = cfgOf v bytes multicartCompat old →
    c.legal = true ∧ bytes.length ≤ c.rombanks * 0x4000 ∧
    (c.rombanks = 2 ∨ c.rombanks / 2 * 0x4000 < bytes.length) ∧
    (c.variant = .mbc1m64 ↔ v = .mbc1 ∧ c.rambanks = 0 ∧ c.rombanks = 64 ∧ multicartCompat = true) ∧
    (c.variant ≠ .mbc1m64 → c.variant = v) ∧
    (c.rtcWired = true ↔ (bytes.getD 0x147 0#8).toNat = 0x0F ∨ (bytes.getD 0x147 0#8).toNat = 0x10) ∧
    (v = .tpp1 → c.features = bytes.getD 0x153 0#8 ∧
      c.rambanks = (if (bytes.getD 0x152 0#8).toNat = 0 then 0
        else if (bytes.getD 0x152 0#8).toNat < 9 then 2 ^ ((bytes.getD 0x152 0#8).toNat - 1) else 256)) ∧
    (v ≠ .tpp1 → c.features = 0#8) ∧
    (v ≠ .tpp1 →
      ((bytes.getD 0x149 0#8).toNat = 0 → c.rambanks = if v = .mbc2 then 1 else 0) ∧
      ((bytes.getD 0x149 0#8).toNat = 2 → c.rambanks = 1) ∧
      ((bytes.getD 0x149 0#8).toNat = 3 → c.rambanks = 4) ∧
      ((bytes.getD 0x149 0#8).toNat = 4 → c.rambanks = 16) ∧
      ((bytes.getD 0x149 0#8).toNat = 5 → c.rambanks = 16) ∧
      ((bytes.getD 0x149 0#8).toNat = 1 ∨ 6 ≤ (bytes.getD 0x149 0#8).toNat →
        c.rambanks = Config.rambanksUnlisted (bytes.getD 0x149 0#8) ∧ ∃ k, c.rambanks = 2 ^ k)) ∧
    (c.battery = true ↔
      (bytes.getD 0x147 0#8).toNat ∈ [0x03, 0x06, 0x09, 0x0F, 0x10, 0x13, 0x1B, 0x1E, 0xFF] ∨
        v = .tpp1 ∧ (bytes.getD 0x153 0#8).getLsbD 3 = true) ∧
    (c.hasRtc = true ↔
      (bytes.getD 0x147 0#8).toNat ∈ [0x0F, 0x10] ∨ v = .tpp1 ∧ (bytes.getD 0x153 0#8).getLsbD 2 = true)

/-- Importing a blob overwrites the whole RAM image when there is a battery and the base time of the clock that is wired
when there is a clock, at the offset the RAM part leaves, and nothing else (spec/60_exceptions.md R341). -/
def Obligations.SavedataImport : Prop :=
  ∀ (s : State) (bytes : List Byte) (n p : Nat), n = s.cfg.rambanks * 0x2000 → p = (if s.cfg.battery then n else 0) →
    p + (if s.cfg.hasRtc then 4 else 0) ≤ bytes.length →
    ∃ t, runLiveHostOp (.loadSavedata bytes) s = .next t ∧
      t = { s with ram := t.ram, rtc := t.rtc, tx := t.tx, answer := .done } ∧
      (s.cfg.battery = true → ∀ i, i < n → ramByte i t = bytes.getD i 0#8) ∧
      (s.cfg.battery = false → t.ram = s.ram) ∧
      (s.cfg.hasRtc = false → t.rtc = s.rtc ∧ t.tx = s.tx) ∧
      (s.cfg.hasRtc = true → ∃ v : Time,
        v.toNat = (bytes.getD p 0#8).toNat + (bytes.getD (p + 1) 0#8).toNat * 2 ^ 8
          + (bytes.getD (p + 2) 0#8).toNat * 2 ^ 16 + (bytes.getD (p + 3) 0#8).toNat * 2 ^ 24 ∧
        (s.cfg.variant = .tpp1 → t.tx = { s.tx with baseTime := v } ∧ t.rtc = s.rtc) ∧
        (s.cfg.variant ≠ .tpp1 → t.rtc = { s.rtc with baseTime := v } ∧ t.tx = s.tx))

/-- Exporting gives the RAM image when there is a battery, then the base time of the active clock, least significant byte
first, when there is a clock; its length is `save_savedata_length()`, and no state changes (spec/60_exceptions.md R343). -/
def Obligations.SavedataExport : Prop :=
  ∀ (s : State) (n p : Nat), n = s.cfg.rambanks * 0x2000 → p = (if s.cfg.battery then n else 0) →
    runLiveHostOp .savedataLength s = .next { s with answer := .length (p + (if s.cfg.hasRtc then 4 else 0)) } ∧
    ∃ blob, runLiveHostOp .saveSavedata s = .next { s with answer := .savedata blob } ∧
      blob.length = p + (if s.cfg.hasRtc then 4 else 0) ∧
      (s.cfg.battery = true → ∀ i, i < n → blob.getD i 0#8 = ramByte i s) ∧
      (s.cfg.hasRtc = true → ∀ k, k < 4 →
        (blob.getD (p + k) 0#8).toNat =
          (if s.cfg.variant = .tpp1 then s.tx.baseTime else s.rtc.baseTime).toNat / 2 ^ (8 * k) % 2 ^ 8)

/-- The round trip of save-data (spec/60_exceptions.md R344, which the spec derives): over the same block nothing changes,
and a block freshly loaded with the same cartridge gets RAM and base time back exactly. -/
def Obligations.SavedataRoundTrip : Prop :=
  ∀ s : State, Invariant s →
    ∃ blob, runLiveHostOp .saveSavedata s = .next { s with answer := .savedata blob } ∧
      runLiveHostOp (.loadSavedata blob) s = .next { s with answer := .done } ∧
      ∀ rom : Memory, ∃ t, runLiveHostOp (.loadSavedata blob) (State.resetFor s.cfg rom) = .next t ∧
        (s.cfg.battery = true → t.ram = s.ram) ∧
        (s.cfg.hasRtc = true → s.cfg.variant = .tpp1 → t.tx.baseTime = s.tx.baseTime) ∧
        (s.cfg.hasRtc = true → s.cfg.variant ≠ .tpp1 → t.rtc.baseTime = s.rtc.baseTime)

/-- A snapshot restored into any state of the same cartridge gives back the whole state of the block as it was when the
snapshot was taken, windows included (spec/60_exceptions.md R350 to R353); taking it changes nothing. That "the same
cartridge" is read as equal configuration and ROM image is the model's reading of R350 (log 22); that the snapshot is one
the invariant lets the host hand back, `Snapshot.Legal`, is the model's own notion (log 28). -/
def Obligations.SnapshotRoundTrip : Prop :=
  ∀ s : State, Invariant s →
    ∃ snap : Snapshot, snap.Legal ∧ runLiveHostOp .saveState s = .next { s with answer := .snapshot snap } ∧
      ∀ u : State, u.cfg = s.cfg → u.rom = s.rom →
        runLiveHostOp (.loadState snap) u =
          .next { u with
            mapper := s.mapper, win := s.win, ram := s.ram, rtc := s.rtc, tx := s.tx, answer := .done }

/-- The debug queries change no state of the block; outside MBC1M64 `can_map_bank_at` answers a free value, of which
nothing is claimed (spec/60_exceptions.md R355, R356, spec/44_mbc1_multi64.md R256; logs 10, 23). -/
def Obligations.DebugQueries : Prop :=
  (∀ s : State,
    runLiveHostOp (.getMemoryArea 1) s = .next { s with answer := .area .rom s.rom (s.cfg.rombanks * 0x4000) } ∧
    runLiveHostOp (.getMemoryArea 3) s = .next { s with answer := .area .ram s.ram (s.cfg.rambanks * 0x2000) }) ∧
  (∀ (s : State) (id : Nat), id ≠ 1 → id ≠ 3 →
    ∃ r, runLiveHostOp (.getMemoryArea id) s = .refused r ∧ r ∈ [Refusal.areaOutsideBlock id, .areaUnspecified id]) ∧
  (∀ (s : State) (addr : Addr) (bank : Nat), s.cfg.variant = .mbc1m64 →
    runLiveHostOp (.canMapBankAt addr bank) s =
      .next { s with answer := .bool (decide (addr.toNat < 0x4000 ↔ bank % 16 = 0)) }) ∧
  (∀ (s : State) (addr : Addr) (bank : Nat), s.cfg.variant ≠ .mbc1m64 →
    ∃ b, runLiveHostOp (.canMapBankAt addr bank) s =
      .next { s with freeUses := s.freeUses + 1, answer := .bool b })

/-- Where the host is refused: a blob shorter than expected, a snapshot of another cartridge, and everything but `load_rom`
(and the host clock) after tear-down (spec/60_exceptions.md R342, R350, R364). That these stop is the model's reading of
"undefined" and "refuse" (logs 21, 22, 24). -/
def Obligations.HostRefusals : Prop :=
  (∀ (s : State) (bytes : List Byte),
    bytes.length < (if s.cfg.battery then s.cfg.rambanks * 0x2000 else 0) + (if s.cfg.hasRtc then 4 else 0) →
    runLiveHostOp (.loadSavedata bytes) s = .refused .shortBlob) ∧
  (∀ (s : State) (snap : Snapshot), (snap.origin ≠ s.cfg ∨ snap.originRom ≠ s.rom) →
    runLiveHostOp (.loadState snap) s = .refused .foreignSnapshot) ∧
  (∀ (s : State) (rest : List Request), s.live = true → s.queue = .host .tearDown :: rest →
    step s = .next { s with live := false, rom := [], ram := [], queue := rest, answer := .done }) ∧
  (∀ (s : State) (r : Request) (rest : List Request), s.live = false → s.queue = r :: rest →
    (∀ bytes fd mc, r ≠ .host (.loadRom bytes fd mc)) → (∀ v, r ≠ .clock v) → step s = .refused .tornDown)
end

