-- ==== Sys2Proof/Laws/Memory.lean ====
section
/-! SUPPORT. The images: a read after a write, the canonical form, and its uniqueness. -/

namespace Sys2Proof.Machine

theorem Memory.wfFrom_cons {blank : Byte} {lo k : Nat} {v : Byte} {rest : Memory} :
    Memory.wfFrom blank lo ((k, v) :: rest) = true ↔
      lo ≤ k ∧ v ≠ blank ∧ Memory.wfFrom blank (k + 1) rest = true := by
  simp [Memory.wfFrom, and_assoc]

theorem Memory.wfFrom_mono {blank : Byte} {mem : Memory} {lo lo' : Nat} (h : Memory.wfFrom blank lo mem = true)
    (le : lo' ≤ lo) : Memory.wfFrom blank lo' mem = true := by
  cases mem with
  | nil => rfl
  | cons c rest =>
    obtain ⟨k, v⟩ := c
    rw [Memory.wfFrom_cons] at h ⊢
    exact ⟨le.trans h.1, h.2⟩

/-- Nothing is listed below the start of the canonical form. -/
theorem Memory.read_lt {blank : Byte} {mem : Memory} {lo i : Nat} (h : Memory.wfFrom blank lo mem = true)
    (lt : i < lo) : Memory.read blank mem i = blank := by
  induction mem generalizing lo with
  | nil => rfl
  | cons c rest ih =>
    obtain ⟨k, v⟩ := c
    rw [Memory.wfFrom_cons] at h
    have : k ≠ i := by omega
    simp only [Memory.read, this, if_false]
    exact ih h.2.2 (by omega)

/-- A read after a write to the same index gives the byte written. -/
theorem Memory.read_write_same {blank : Byte} {mem : Memory} {lo : Nat} (h : Memory.wfFrom blank lo mem = true)
    (i : Nat) (v : Byte) : Memory.read blank (Memory.write blank mem i v) i = v := by
  induction mem generalizing lo with
  | nil => by_cases hv : v = blank <;> simp [Memory.write, Memory.read, hv]
  | cons c rest ih =>
    obtain ⟨k, u⟩ := c
    rw [Memory.wfFrom_cons] at h
    by_cases h1 : k < i
    · have : k ≠ i := by omega
      simp [Memory.write, h1, Memory.read, this, ih h.2.2]
    · by_cases h2 : k = i
      · subst h2
        by_cases hv : v = blank
        · simp [Memory.write, hv, Memory.read_lt h.2.2 (Nat.lt_succ_self k)]
        · simp [Memory.write, hv, Memory.read]
      · by_cases hv : v = blank
        · have : Memory.read blank rest i = blank := Memory.read_lt h.2.2 (by omega)
          simp [Memory.write, h1, h2, hv, Memory.read, this]
        · simp [Memory.write, h1, h2, hv, Memory.read]

/-- A write leaves every other index alone. -/
theorem Memory.read_write_other (blank : Byte) (mem : Memory) (i j : Nat) (v : Byte) (ne : j ≠ i) :
    Memory.read blank (Memory.write blank mem i v) j = Memory.read blank mem j := by
  have ne' : i ≠ j := Ne.symm ne
  induction mem with
  | nil => by_cases hv : v = blank <;> simp [Memory.write, Memory.read, hv, ne']
  | cons c rest ih =>
    obtain ⟨k, u⟩ := c
    by_cases h1 : k < i
    · simp [Memory.write, h1, Memory.read, ih]
    · by_cases h2 : k = i
      · subst h2
        by_cases hv : v = blank <;> simp [Memory.write, hv, Memory.read, ne']
      · by_cases hv : v = blank <;> simp [Memory.write, h1, h2, hv, Memory.read, ne']

theorem Memory.wfFrom_write {blank : Byte} {mem : Memory} {lo : Nat} (h : Memory.wfFrom blank lo mem = true)
    {i : Nat} (le : lo ≤ i) (v : Byte) : Memory.wfFrom blank lo (Memory.write blank mem i v) = true := by
  induction mem generalizing lo with
  | nil => by_cases hv : v = blank <;> simp [Memory.write, Memory.wfFrom, hv, le]
  | cons c rest ih =>
    obtain ⟨k, u⟩ := c
    have h' := Memory.wfFrom_cons.mp h
    by_cases h1 : k < i
    · simp only [Memory.write, h1, if_true]
      exact Memory.wfFrom_cons.mpr ⟨h'.1, h'.2.1, ih h'.2.2 (by omega)⟩
    · by_cases h2 : k = i
      · subst h2
        by_cases hv : v = blank
        · simp only [Memory.write, hv, if_true, lt_irrefl, if_false]
          exact Memory.wfFrom_mono h'.2.2 (by omega)
        · simp only [Memory.write, hv, if_true, lt_irrefl, if_false]
          exact Memory.wfFrom_cons.mpr ⟨le, hv, h'.2.2⟩
      · by_cases hv : v = blank
        · simp only [Memory.write, h1, h2, hv, if_true, if_false]
          exact h
        · simp only [Memory.write, h1, h2, hv, if_false]
          exact Memory.wfFrom_cons.mpr
            ⟨le, hv, Memory.wfFrom_cons.mpr ⟨by omega, h'.2.1, h'.2.2⟩⟩

/-- Every write keeps the canonical form. -/
theorem Memory.wf_write {blank : Byte} {mem : Memory} (h : Memory.wf blank mem = true) (i : Nat) (v : Byte) :
    Memory.wf blank (Memory.write blank mem i v) = true :=
  Memory.wfFrom_write h (Nat.zero_le i) v

theorem Memory.below_cons {n : Nat} {c : Host.Cell} {rest : Memory} :
    Memory.below n (c :: rest) = true ↔ c.1 < n ∧ Memory.below n rest = true := by
  simp [Memory.below]

/-- A write inside the size lists no index outside it. -/
theorem Memory.below_write {n : Nat} {mem : Memory} (blank : Byte) (h : Memory.below n mem = true) {i : Nat}
    (lt : i < n) (v : Byte) : Memory.below n (Memory.write blank mem i v) = true := by
  induction mem with
  | nil => by_cases hv : v = blank <;> simp [Memory.write, Memory.below, hv, lt]
  | cons c rest ih =>
    obtain ⟨k, u⟩ := c
    have h' := Memory.below_cons.mp h
    by_cases h1 : k < i
    · simp only [Memory.write, h1, if_true]
      exact Memory.below_cons.mpr ⟨h'.1, ih h'.2⟩
    · by_cases h2 : k = i
      · subst h2
        by_cases hv : v = blank
        · simp only [Memory.write, hv, if_true, lt_irrefl, if_false]
          exact h'.2
        · simp only [Memory.write, hv, if_true, lt_irrefl, if_false]
          exact Memory.below_cons.mpr ⟨lt, h'.2⟩
      · by_cases hv : v = blank
        · simp only [Memory.write, h1, h2, hv, if_true, if_false]
          exact h
        · simp only [Memory.write, h1, h2, hv, if_false]
          exact Memory.below_cons.mpr ⟨lt, h⟩

/-- Nothing outside the size is listed. -/
theorem Memory.read_of_below {n : Nat} {mem : Memory} (blank : Byte) (h : Memory.below n mem = true) {i : Nat}
    (le : n ≤ i) : Memory.read blank mem i = blank := by
  induction mem with
  | nil => rfl
  | cons c rest ih =>
    obtain ⟨k, v⟩ := c
    have h' := Memory.below_cons.mp h
    have h1 : k < n := h'.1
    have : k ≠ i := by omega
    simp only [Memory.read, this, if_false]
    exact ih h'.2

/-! ## Images from bytes -/

theorem Memory.wfFrom_ofBytes (blank : Byte) (lo : Nat) (bs : List Byte) :
    Memory.wfFrom blank lo (Memory.ofBytes blank lo bs) = true := by
  induction bs generalizing lo with
  | nil => rfl
  | cons b bs ih =>
    by_cases hb : b = blank
    · simp only [Memory.ofBytes, hb, if_true]
      exact Memory.wfFrom_mono (ih (lo + 1)) (Nat.le_succ lo)
    · simp only [Memory.ofBytes, hb, if_false]
      exact Memory.wfFrom_cons.mpr ⟨le_refl lo, hb, ih (lo + 1)⟩

theorem Memory.below_ofBytes (blank : Byte) (lo : Nat) (bs : List Byte) {n : Nat} (le : lo + bs.length ≤ n) :
    Memory.below n (Memory.ofBytes blank lo bs) = true := by
  induction bs generalizing lo with
  | nil => rfl
  | cons b bs ih =>
    rw [List.length_cons] at le
    by_cases hb : b = blank
    · simp only [Memory.ofBytes, hb, if_true]
      exact ih (lo + 1) (by omega)
    · simp only [Memory.ofBytes, hb, if_false]
      exact Memory.below_cons.mpr ⟨show lo < n by omega, ih (lo + 1) (by omega)⟩

/-- Byte `j` of an image made of bytes. -/
theorem Memory.read_ofBytes (blank : Byte) (lo : Nat) (bs : List Byte) (j : Nat) :
    Memory.read blank (Memory.ofBytes blank lo bs) j = if lo ≤ j then bs.getD (j - lo) blank else blank := by
  induction bs generalizing lo with
  | nil => simp [Memory.ofBytes, Memory.read]
  | cons b bs ih =>
    by_cases hb : b = blank
    · simp only [Memory.ofBytes, hb, if_true, ih]
      rcases Nat.lt_trichotomy lo j with h | h | h
      · have e : j - lo = (j - (lo + 1)) + 1 := by omega
        simp [e, h.le, Nat.succ_le_of_lt h]
      · subst h; simp
      · simp [Nat.not_le.mpr h, show ¬ lo + 1 ≤ j by omega]
    · simp only [Memory.ofBytes, hb, if_false, Memory.read, ih]
      rcases Nat.lt_trichotomy lo j with h | h | h
      · have e : j - lo = (j - (lo + 1)) + 1 := by omega
        simp [e, h.le, h.ne, Nat.succ_le_of_lt h]
      · subst h; simp
      · simp [Nat.not_le.mpr h, show ¬ lo + 1 ≤ j by omega, h.ne']

/-- An image made of bytes is in canonical form. -/
theorem Memory.wf_ofBytes (blank : Byte) (bs : List Byte) : Memory.wf blank (Memory.ofBytes blank 0 bs) = true :=
  Memory.wfFrom_ofBytes blank 0 bs

/-! ## One list for each image -/

theorem Memory.ext_from {blank : Byte} {m m' : Memory} {lo : Nat} (h : Memory.wfFrom blank lo m = true)
    (h' : Memory.wfFrom blank lo m' = true) (same : ∀ i, Memory.read blank m i = Memory.read blank m' i) : m = m' := by
  induction m generalizing lo m' with
  | nil =>
    cases m' with
    | nil => rfl
    | cons c rest =>
      obtain ⟨k, v⟩ := c
      have e := Memory.wfFrom_cons.mp h'
      have := same k
      simp [Memory.read] at this
      exact absurd this.symm e.2.1
  | cons c rest ih =>
    obtain ⟨k, v⟩ := c
    have e := Memory.wfFrom_cons.mp h
    cases m' with
    | nil =>
      have := same k
      simp [Memory.read] at this
      exact absurd this e.2.1
    | cons c' rest' =>
      obtain ⟨k', v'⟩ := c'
      have e' := Memory.wfFrom_cons.mp h'
      have hk : k = k' := by
        rcases Nat.lt_trichotomy k k' with lt | eq | lt
        · have r := same k
          rw [show Memory.read blank ((k', v') :: rest') k = blank from by
            simp only [Memory.read, show k' ≠ k by omega, if_false]
            exact Memory.read_lt e'.2.2 (by omega)] at r
          simp [Memory.read] at r
          exact absurd r e.2.1
        · exact eq
        · have r := same k'
          rw [show Memory.read blank ((k, v) :: rest) k' = blank from by
            simp only [Memory.read, show k ≠ k' by omega, if_false]
            exact Memory.read_lt e.2.2 (by omega)] at r
          simp [Memory.read] at r
          exact absurd r.symm e'.2.1
      subst hk
      have hv : v = v' := by simpa [Memory.read] using same k
      subst hv
      have : rest = rest' := ih e.2.2 e'.2.2 (fun i => by
        by_cases hi : k = i
        · subst hi
          rw [Memory.read_lt e.2.2 (Nat.lt_succ_self k), Memory.read_lt e'.2.2 (Nat.lt_succ_self k)]
        · simpa [Memory.read, hi] using same i)
      rw [this]

/-- Equal images are equal lists. -/
theorem Memory.ext_of_wf {blank : Byte} {m m' : Memory} (h : Memory.wf blank m = true) (h' : Memory.wf blank m' = true)
    (same : ∀ i, Memory.read blank m i = Memory.read blank m' i) : m = m' :=
  Memory.ext_from h h' same

theorem Memory.length_toBytes (blank : Byte) (mem : Memory) (n : Nat) : (Memory.toBytes blank mem n).length = n := by
  simp [Memory.toBytes]

theorem Memory.getD_toBytes (blank : Byte) (mem : Memory) {n i : Nat} (lt : i < n) :
    (Memory.toBytes blank mem n).getD i blank = Memory.read blank mem i := by
  simp [Memory.toBytes, List.getD, lt]

/-- An image written out as bytes and read back is the same image. -/
theorem Memory.ofBytes_toBytes {blank : Byte} {mem : Memory} {n : Nat} (h : Memory.wf blank mem = true)
    (inside : Memory.below n mem = true) : Memory.ofBytes blank 0 (Memory.toBytes blank mem n) = mem := by
  refine Memory.ext_of_wf (Memory.wf_ofBytes _ _) h (fun i => ?_)
  rw [Memory.read_ofBytes]
  by_cases lt : i < n
  · simpa using Memory.getD_toBytes blank mem lt
  · rw [Memory.read_of_below blank inside (Nat.not_lt.mp lt)]
    simp [Memory.toBytes, List.getD, lt]

/-- The memory of the state after reset has the canonical form. -/
theorem State.reset_ram_wf : Memory.wf ramBlank State.reset.ram = true := rfl

theorem State.reset_rom_wf : Memory.wf romBlank State.reset.rom = true := rfl

end Sys2Proof.Machine
end

