-- ==== Sys2Proof/Laws/State.lean ====
section
/-! SUPPORT. One lemma per field of State per update operation, each true by unfolding. -/

namespace Sys2Proof.Machine

/-! ### setRombank -/

@[simp] theorem setRombank_cfg (bank : RomBank) (s : State) : (setRombank bank s).cfg = s.cfg := rfl
@[simp] theorem setRombank_mapper (bank : RomBank) (s : State) : (setRombank bank s).mapper = s.mapper := rfl
@[simp] theorem setRombank_win (bank : RomBank) (s : State) : (setRombank bank s).win = { s.win with rom := bank } := rfl
@[simp] theorem setRombank_rom (bank : RomBank) (s : State) : (setRombank bank s).rom = s.rom := rfl
@[simp] theorem setRombank_ram (bank : RomBank) (s : State) : (setRombank bank s).ram = s.ram := rfl
@[simp] theorem setRombank_rtc (bank : RomBank) (s : State) : (setRombank bank s).rtc = s.rtc := rfl
@[simp] theorem setRombank_tx (bank : RomBank) (s : State) : (setRombank bank s).tx = s.tx := rfl
@[simp] theorem setRombank_live (bank : RomBank) (s : State) : (setRombank bank s).live = s.live := rfl
@[simp] theorem setRombank_hostNow (bank : RomBank) (s : State) : (setRombank bank s).hostNow = s.hostNow := rfl
@[simp] theorem setRombank_nowCalls (bank : RomBank) (s : State) : (setRombank bank s).nowCalls = s.nowCalls := rfl
@[simp] theorem setRombank_freeUses (bank : RomBank) (s : State) : (setRombank bank s).freeUses = s.freeUses := rfl
@[simp] theorem setRombank_queue (bank : RomBank) (s : State) : (setRombank bank s).queue = s.queue := rfl
@[simp] theorem setRombank_answer (bank : RomBank) (s : State) : (setRombank bank s).answer = s.answer := rfl

/-! ### setRombank0 -/

@[simp] theorem setRombank0_cfg (bank : RomBank) (s : State) : (setRombank0 bank s).cfg = s.cfg := rfl
@[simp] theorem setRombank0_mapper (bank : RomBank) (s : State) : (setRombank0 bank s).mapper = s.mapper := rfl
@[simp] theorem setRombank0_win (bank : RomBank) (s : State) : (setRombank0 bank s).win = { s.win with rom0 := bank } := rfl
@[simp] theorem setRombank0_rom (bank : RomBank) (s : State) : (setRombank0 bank s).rom = s.rom := rfl
@[simp] theorem setRombank0_ram (bank : RomBank) (s : State) : (setRombank0 bank s).ram = s.ram := rfl
@[simp] theorem setRombank0_rtc (bank : RomBank) (s : State) : (setRombank0 bank s).rtc = s.rtc := rfl
@[simp] theorem setRombank0_tx (bank : RomBank) (s : State) : (setRombank0 bank s).tx = s.tx := rfl
@[simp] theorem setRombank0_live (bank : RomBank) (s : State) : (setRombank0 bank s).live = s.live := rfl
@[simp] theorem setRombank0_hostNow (bank : RomBank) (s : State) : (setRombank0 bank s).hostNow = s.hostNow := rfl
@[simp] theorem setRombank0_nowCalls (bank : RomBank) (s : State) : (setRombank0 bank s).nowCalls = s.nowCalls := rfl
@[simp] theorem setRombank0_freeUses (bank : RomBank) (s : State) : (setRombank0 bank s).freeUses = s.freeUses := rfl
@[simp] theorem setRombank0_queue (bank : RomBank) (s : State) : (setRombank0 bank s).queue = s.queue := rfl
@[simp] theorem setRombank0_answer (bank : RomBank) (s : State) : (setRombank0 bank s).answer = s.answer := rfl

/-! ### setRambank -/

@[simp] theorem setRambank_cfg (re we rtcEn : Bool) (bank : RamBank) (s : State) : (setRambank re we rtcEn bank s).cfg = s.cfg := rfl
@[simp] theorem setRambank_mapper (re we rtcEn : Bool) (bank : RamBank) (s : State) : (setRambank re we rtcEn bank s).mapper = s.mapper := rfl
@[simp] theorem setRambank_win (re we rtcEn : Bool) (bank : RamBank) (s : State) : (setRambank re we rtcEn bank s).win = { s.win with ram := bank, re := re, we := we, rtcEn := rtcEn } := rfl
@[simp] theorem setRambank_rom (re we rtcEn : Bool) (bank : RamBank) (s : State) : (setRambank re we rtcEn bank s).rom = s.rom := rfl
@[simp] theorem setRambank_ram (re we rtcEn : Bool) (bank : RamBank) (s : State) : (setRambank re we rtcEn bank s).ram = s.ram := rfl
@[simp] theorem setRambank_rtc (re we rtcEn : Bool) (bank : RamBank) (s : State) : (setRambank re we rtcEn bank s).rtc = s.rtc := rfl
@[simp] theorem setRambank_tx (re we rtcEn : Bool) (bank : RamBank) (s : State) : (setRambank re we rtcEn bank s).tx = s.tx := rfl
@[simp] theorem setRambank_live (re we rtcEn : Bool) (bank : RamBank) (s : State) : (setRambank re we rtcEn bank s).live = s.live := rfl
@[simp] theorem setRambank_hostNow (re we rtcEn : Bool) (bank : RamBank) (s : State) : (setRambank re we rtcEn bank s).hostNow = s.hostNow := rfl
@[simp] theorem setRambank_nowCalls (re we rtcEn : Bool) (bank : RamBank) (s : State) : (setRambank re we rtcEn bank s).nowCalls = s.nowCalls := rfl
@[simp] theorem setRambank_freeUses (re we rtcEn : Bool) (bank : RamBank) (s : State) : (setRambank re we rtcEn bank s).freeUses = s.freeUses := rfl
@[simp] theorem setRambank_queue (re we rtcEn : Bool) (bank : RamBank) (s : State) : (setRambank re we rtcEn bank s).queue = s.queue := rfl
@[simp] theorem setRambank_answer (re we rtcEn : Bool) (bank : RamBank) (s : State) : (setRambank re we rtcEn bank s).answer = s.answer := rfl

/-! ### setMRombank -/

@[simp] theorem setMRombank_cfg (v : RomBank) (s : State) : (setMRombank v s).cfg = s.cfg := rfl
@[simp] theorem setMRombank_mapper (v : RomBank) (s : State) : (setMRombank v s).mapper = { s.mapper with rombank := v } := rfl
@[simp] theorem setMRombank_win (v : RomBank) (s : State) : (setMRombank v s).win = s.win := rfl
@[simp] theorem setMRombank_rom (v : RomBank) (s : State) : (setMRombank v s).rom = s.rom := rfl
@[simp] theorem setMRombank_ram (v : RomBank) (s : State) : (setMRombank v s).ram = s.ram := rfl
@[simp] theorem setMRombank_rtc (v : RomBank) (s : State) : (setMRombank v s).rtc = s.rtc := rfl
@[simp] theorem setMRombank_tx (v : RomBank) (s : State) : (setMRombank v s).tx = s.tx := rfl
@[simp] theorem setMRombank_live (v : RomBank) (s : State) : (setMRombank v s).live = s.live := rfl
@[simp] theorem setMRombank_hostNow (v : RomBank) (s : State) : (setMRombank v s).hostNow = s.hostNow := rfl
@[simp] theorem setMRombank_nowCalls (v : RomBank) (s : State) : (setMRombank v s).nowCalls = s.nowCalls := rfl
@[simp] theorem setMRombank_freeUses (v : RomBank) (s : State) : (setMRombank v s).freeUses = s.freeUses := rfl
@[simp] theorem setMRombank_queue (v : RomBank) (s : State) : (setMRombank v s).queue = s.queue := rfl
@[simp] theorem setMRombank_answer (v : RomBank) (s : State) : (setMRombank v s).answer = s.answer := rfl

/-! ### setMRambank -/

@[simp] theorem setMRambank_cfg (v : RamBank) (s : State) : (setMRambank v s).cfg = s.cfg := rfl
@[simp] theorem setMRambank_mapper (v : RamBank) (s : State) : (setMRambank v s).mapper = { s.mapper with rambank := v } := rfl
@[simp] theorem setMRambank_win (v : RamBank) (s : State) : (setMRambank v s).win = s.win := rfl
@[simp] theorem setMRambank_rom (v : RamBank) (s : State) : (setMRambank v s).rom = s.rom := rfl
@[simp] theorem setMRambank_ram (v : RamBank) (s : State) : (setMRambank v s).ram = s.ram := rfl
@[simp] theorem setMRambank_rtc (v : RamBank) (s : State) : (setMRambank v s).rtc = s.rtc := rfl
@[simp] theorem setMRambank_tx (v : RamBank) (s : State) : (setMRambank v s).tx = s.tx := rfl
@[simp] theorem setMRambank_live (v : RamBank) (s : State) : (setMRambank v s).live = s.live := rfl
@[simp] theorem setMRambank_hostNow (v : RamBank) (s : State) : (setMRambank v s).hostNow = s.hostNow := rfl
@[simp] theorem setMRambank_nowCalls (v : RamBank) (s : State) : (setMRambank v s).nowCalls = s.nowCalls := rfl
@[simp] theorem setMRambank_freeUses (v : RamBank) (s : State) : (setMRambank v s).freeUses = s.freeUses := rfl
@[simp] theorem setMRambank_queue (v : RamBank) (s : State) : (setMRambank v s).queue = s.queue := rfl
@[simp] theorem setMRambank_answer (v : RamBank) (s : State) : (setMRambank v s).answer = s.answer := rfl

/-! ### setEnableRam -/

@[simp] theorem setEnableRam_cfg (data : Byte) (s : State) : (setEnableRam data s).cfg = s.cfg := rfl
@[simp] theorem setEnableRam_mapper (data : Byte) (s : State) : (setEnableRam data s).mapper = { s.mapper with enableRam := ramEnableValue data } := rfl
@[simp] theorem setEnableRam_win (data : Byte) (s : State) : (setEnableRam data s).win = s.win := rfl
@[simp] theorem setEnableRam_rom (data : Byte) (s : State) : (setEnableRam data s).rom = s.rom := rfl
@[simp] theorem setEnableRam_ram (data : Byte) (s : State) : (setEnableRam data s).ram = s.ram := rfl
@[simp] theorem setEnableRam_rtc (data : Byte) (s : State) : (setEnableRam data s).rtc = s.rtc := rfl
@[simp] theorem setEnableRam_tx (data : Byte) (s : State) : (setEnableRam data s).tx = s.tx := rfl
@[simp] theorem setEnableRam_live (data : Byte) (s : State) : (setEnableRam data s).live = s.live := rfl
@[simp] theorem setEnableRam_hostNow (data : Byte) (s : State) : (setEnableRam data s).hostNow = s.hostNow := rfl
@[simp] theorem setEnableRam_nowCalls (data : Byte) (s : State) : (setEnableRam data s).nowCalls = s.nowCalls := rfl
@[simp] theorem setEnableRam_freeUses (data : Byte) (s : State) : (setEnableRam data s).freeUses = s.freeUses := rfl
@[simp] theorem setEnableRam_queue (data : Byte) (s : State) : (setEnableRam data s).queue = s.queue := rfl
@[simp] theorem setEnableRam_answer (data : Byte) (s : State) : (setEnableRam data s).answer = s.answer := rfl

/-! ### setRamBankMode -/

@[simp] theorem setRamBankMode_cfg (data : Byte) (s : State) : (setRamBankMode data s).cfg = s.cfg := rfl
@[simp] theorem setRamBankMode_mapper (data : Byte) (s : State) : (setRamBankMode data s).mapper = { s.mapper with ramBankMode := dataBit0 data } := rfl
@[simp] theorem setRamBankMode_win (data : Byte) (s : State) : (setRamBankMode data s).win = s.win := rfl
@[simp] theorem setRamBankMode_rom (data : Byte) (s : State) : (setRamBankMode data s).rom = s.rom := rfl
@[simp] theorem setRamBankMode_ram (data : Byte) (s : State) : (setRamBankMode data s).ram = s.ram := rfl
@[simp] theorem setRamBankMode_rtc (data : Byte) (s : State) : (setRamBankMode data s).rtc = s.rtc := rfl
@[simp] theorem setRamBankMode_tx (data : Byte) (s : State) : (setRamBankMode data s).tx = s.tx := rfl
@[simp] theorem setRamBankMode_live (data : Byte) (s : State) : (setRamBankMode data s).live = s.live := rfl
@[simp] theorem setRamBankMode_hostNow (data : Byte) (s : State) : (setRamBankMode data s).hostNow = s.hostNow := rfl
@[simp] theorem setRamBankMode_nowCalls (data : Byte) (s : State) : (setRamBankMode data s).nowCalls = s.nowCalls := rfl
@[simp] theorem setRamBankMode_freeUses (data : Byte) (s : State) : (setRamBankMode data s).freeUses = s.freeUses := rfl
@[simp] theorem setRamBankMode_queue (data : Byte) (s : State) : (setRamBankMode data s).queue = s.queue := rfl
@[simp] theorem setRamBankMode_answer (data : Byte) (s : State) : (setRamBankMode data s).answer = s.answer := rfl

/-! ### setMapmode -/

@[simp] theorem setMapmode_cfg (k : BitVec 2) (s : State) : (setMapmode k s).cfg = s.cfg := rfl
@[simp] theorem setMapmode_mapper (k : BitVec 2) (s : State) : (setMapmode k s).mapper = { s.mapper with mapmode := k } := rfl
@[simp] theorem setMapmode_win (k : BitVec 2) (s : State) : (setMapmode k s).win = s.win := rfl
@[simp] theorem setMapmode_rom (k : BitVec 2) (s : State) : (setMapmode k s).rom = s.rom := rfl
@[simp] theorem setMapmode_ram (k : BitVec 2) (s : State) : (setMapmode k s).ram = s.ram := rfl
@[simp] theorem setMapmode_rtc (k : BitVec 2) (s : State) : (setMapmode k s).rtc = s.rtc := rfl
@[simp] theorem setMapmode_tx (k : BitVec 2) (s : State) : (setMapmode k s).tx = s.tx := rfl
@[simp] theorem setMapmode_live (k : BitVec 2) (s : State) : (setMapmode k s).live = s.live := rfl
@[simp] theorem setMapmode_hostNow (k : BitVec 2) (s : State) : (setMapmode k s).hostNow = s.hostNow := rfl
@[simp] theorem setMapmode_nowCalls (k : BitVec 2) (s : State) : (setMapmode k s).nowCalls = s.nowCalls := rfl
@[simp] theorem setMapmode_freeUses (k : BitVec 2) (s : State) : (setMapmode k s).freeUses = s.freeUses := rfl
@[simp] theorem setMapmode_queue (k : BitVec 2) (s : State) : (setMapmode k s).queue = s.queue := rfl
@[simp] theorem setMapmode_answer (k : BitVec 2) (s : State) : (setMapmode k s).answer = s.answer := rfl

/-! ### setRtc -/

@[simp] theorem setRtc_cfg (r : Rtc) (s : State) : (setRtc r s).cfg = s.cfg := rfl
@[simp] theorem setRtc_mapper (r : Rtc) (s : State) : (setRtc r s).mapper = s.mapper := rfl
@[simp] theorem setRtc_win (r : Rtc) (s : State) : (setRtc r s).win = s.win := rfl
@[simp] theorem setRtc_rom (r : Rtc) (s : State) : (setRtc r s).rom = s.rom := rfl
@[simp] theorem setRtc_ram (r : Rtc) (s : State) : (setRtc r s).ram = s.ram := rfl
@[simp] theorem setRtc_rtc (r : Rtc) (s : State) : (setRtc r s).rtc = r := rfl
@[simp] theorem setRtc_tx (r : Rtc) (s : State) : (setRtc r s).tx = s.tx := rfl
@[simp] theorem setRtc_live (r : Rtc) (s : State) : (setRtc r s).live = s.live := rfl
@[simp] theorem setRtc_hostNow (r : Rtc) (s : State) : (setRtc r s).hostNow = s.hostNow := rfl
@[simp] theorem setRtc_nowCalls (r : Rtc) (s : State) : (setRtc r s).nowCalls = s.nowCalls := rfl
@[simp] theorem setRtc_freeUses (r : Rtc) (s : State) : (setRtc r s).freeUses = s.freeUses := rfl
@[simp] theorem setRtc_queue (r : Rtc) (s : State) : (setRtc r s).queue = s.queue := rfl
@[simp] theorem setRtc_answer (r : Rtc) (s : State) : (setRtc r s).answer = s.answer := rfl

/-! ### setTx -/

@[simp] theorem setTx_cfg (x : Tx) (s : State) : (setTx x s).cfg = s.cfg := rfl
@[simp] theorem setTx_mapper (x : Tx) (s : State) : (setTx x s).mapper = s.mapper := rfl
@[simp] theorem setTx_win (x : Tx) (s : State) : (setTx x s).win = s.win := rfl
@[simp] theorem setTx_rom (x : Tx) (s : State) : (setTx x s).rom = s.rom := rfl
@[simp] theorem setTx_ram (x : Tx) (s : State) : (setTx x s).ram = s.ram := rfl
@[simp] theorem setTx_rtc (x : Tx) (s : State) : (setTx x s).rtc = s.rtc := rfl
@[simp] theorem setTx_tx (x : Tx) (s : State) : (setTx x s).tx = x := rfl
@[simp] theorem setTx_live (x : Tx) (s : State) : (setTx x s).live = s.live := rfl
@[simp] theorem setTx_hostNow (x : Tx) (s : State) : (setTx x s).hostNow = s.hostNow := rfl
@[simp] theorem setTx_nowCalls (x : Tx) (s : State) : (setTx x s).nowCalls = s.nowCalls := rfl
@[simp] theorem setTx_freeUses (x : Tx) (s : State) : (setTx x s).freeUses = s.freeUses := rfl
@[simp] theorem setTx_queue (x : Tx) (s : State) : (setTx x s).queue = s.queue := rfl
@[simp] theorem setTx_answer (x : Tx) (s : State) : (setTx x s).answer = s.answer := rfl

/-! ### reply -/

@[simp] theorem reply_cfg (a : Answer) (s : State) : (reply a s).cfg = s.cfg := rfl
@[simp] theorem reply_mapper (a : Answer) (s : State) : (reply a s).mapper = s.mapper := rfl
@[simp] theorem reply_win (a : Answer) (s : State) : (reply a s).win = s.win := rfl
@[simp] theorem reply_rom (a : Answer) (s : State) : (reply a s).rom = s.rom := rfl
@[simp] theorem reply_ram (a : Answer) (s : State) : (reply a s).ram = s.ram := rfl
@[simp] theorem reply_rtc (a : Answer) (s : State) : (reply a s).rtc = s.rtc := rfl
@[simp] theorem reply_tx (a : Answer) (s : State) : (reply a s).tx = s.tx := rfl
@[simp] theorem reply_live (a : Answer) (s : State) : (reply a s).live = s.live := rfl
@[simp] theorem reply_hostNow (a : Answer) (s : State) : (reply a s).hostNow = s.hostNow := rfl
@[simp] theorem reply_nowCalls (a : Answer) (s : State) : (reply a s).nowCalls = s.nowCalls := rfl
@[simp] theorem reply_freeUses (a : Answer) (s : State) : (reply a s).freeUses = s.freeUses := rfl
@[simp] theorem reply_queue (a : Answer) (s : State) : (reply a s).queue = s.queue := rfl
@[simp] theorem reply_answer (a : Answer) (s : State) : (reply a s).answer = a := rfl

/-! ### countNow -/

@[simp] theorem countNow_cfg (s : State) : (countNow s).cfg = s.cfg := rfl
@[simp] theorem countNow_mapper (s : State) : (countNow s).mapper = s.mapper := rfl
@[simp] theorem countNow_win (s : State) : (countNow s).win = s.win := rfl
@[simp] theorem countNow_rom (s : State) : (countNow s).rom = s.rom := rfl
@[simp] theorem countNow_ram (s : State) : (countNow s).ram = s.ram := rfl
@[simp] theorem countNow_rtc (s : State) : (countNow s).rtc = s.rtc := rfl
@[simp] theorem countNow_tx (s : State) : (countNow s).tx = s.tx := rfl
@[simp] theorem countNow_live (s : State) : (countNow s).live = s.live := rfl
@[simp] theorem countNow_hostNow (s : State) : (countNow s).hostNow = s.hostNow := rfl
@[simp] theorem countNow_nowCalls (s : State) : (countNow s).nowCalls = s.nowCalls + 1 := rfl
@[simp] theorem countNow_freeUses (s : State) : (countNow s).freeUses = s.freeUses := rfl
@[simp] theorem countNow_queue (s : State) : (countNow s).queue = s.queue := rfl
@[simp] theorem countNow_answer (s : State) : (countNow s).answer = s.answer := rfl

/-! ### setRamByte -/

@[simp] theorem setRamByte_cfg (i : Nat) (v : Byte) (s : State) : (setRamByte i v s).cfg = s.cfg := rfl
@[simp] theorem setRamByte_mapper (i : Nat) (v : Byte) (s : State) : (setRamByte i v s).mapper = s.mapper := rfl
@[simp] theorem setRamByte_win (i : Nat) (v : Byte) (s : State) : (setRamByte i v s).win = s.win := rfl
@[simp] theorem setRamByte_rom (i : Nat) (v : Byte) (s : State) : (setRamByte i v s).rom = s.rom := rfl
@[simp] theorem setRamByte_ram (i : Nat) (v : Byte) (s : State) : (setRamByte i v s).ram = Memory.write ramBlank s.ram i v := rfl
@[simp] theorem setRamByte_rtc (i : Nat) (v : Byte) (s : State) : (setRamByte i v s).rtc = s.rtc := rfl
@[simp] theorem setRamByte_tx (i : Nat) (v : Byte) (s : State) : (setRamByte i v s).tx = s.tx := rfl
@[simp] theorem setRamByte_live (i : Nat) (v : Byte) (s : State) : (setRamByte i v s).live = s.live := rfl
@[simp] theorem setRamByte_hostNow (i : Nat) (v : Byte) (s : State) : (setRamByte i v s).hostNow = s.hostNow := rfl
@[simp] theorem setRamByte_nowCalls (i : Nat) (v : Byte) (s : State) : (setRamByte i v s).nowCalls = s.nowCalls := rfl
@[simp] theorem setRamByte_freeUses (i : Nat) (v : Byte) (s : State) : (setRamByte i v s).freeUses = s.freeUses := rfl
@[simp] theorem setRamByte_queue (i : Nat) (v : Byte) (s : State) : (setRamByte i v s).queue = s.queue := rfl
@[simp] theorem setRamByte_answer (i : Nat) (v : Byte) (s : State) : (setRamByte i v s).answer = s.answer := rfl

end Sys2Proof.Machine
end

