-- ==== Sys2Proof/Laws/Access.lean ====
section
/-! SUPPORT. Everything the ROM and RAM accesses can do, said once for each. -/

namespace Sys2Proof.Machine

/-- A read inside the ROM image. -/
theorem readRom_inside {bank : RomBank} {off : BitVec 14} {s : State} (h : romIndex bank off < s.cfg.romSize) :
    readRom bank off s = .next { s with answer := .byte (romByte (romIndex bank off) s) } := by
  rw [readRom, if_pos h]
  rfl

/-- A ROM read that goes on answers a byte and changes nothing else. -/
theorem readRom_next {bank : RomBank} {off : BitVec 14} {s t : State} (h : readRom bank off s = .next t) :
    t = { s with answer := .byte (romByte (romIndex bank off) s) } := by
  unfold readRom at h
  split at h
  · injection h with h
    exact h.symm
  · nomatch h

/-- A permitted read with no RAM. -/
theorem readRam_none {off : BitVec 13} {s : State} (h : s.cfg.rambanks = 0) :
    readRam off s = .next { s with answer := .byte 0xFF#8 } := by
  rw [readRam, if_pos h]
  rfl

/-- A permitted read inside the RAM image. -/
theorem readRam_inside {off : BitVec 13} {s : State} (h : s.cfg.rambanks ≠ 0)
    (inside : ramIndex s.win.ram off < s.cfg.ramSize) :
    readRam off s = .next { s with answer := .byte (ramByte (ramIndex s.win.ram off) s) } := by
  rw [readRam, if_neg h, if_pos inside]
  rfl

/-- A RAM read that goes on answers a byte and changes nothing else. -/
theorem readRam_next {off : BitVec 13} {s t : State} (h : readRam off s = .next t) :
    t = { s with
      answer := .byte (if s.cfg.rambanks = 0 then 0xFF#8 else ramByte (ramIndex s.win.ram off) s) } := by
  unfold readRam at h
  split at h
  · injection h with h
    rw [if_pos ‹_›]
    exact h.symm
  · split at h
    · injection h with h
      rw [if_neg ‹_›]
      exact h.symm
    · nomatch h

/-- A permitted write with no RAM. -/
theorem writeRam_none {off : BitVec 13} {data : Byte} {s : State} (h : s.cfg.rambanks = 0) :
    writeRam off data s = .next { s with answer := .done } := by
  rw [writeRam, if_pos h]
  rfl

/-- A permitted write inside the RAM image. -/
theorem writeRam_inside {off : BitVec 13} {data : Byte} {s : State} (h : s.cfg.rambanks ≠ 0)
    (inside : ramIndex s.win.ram off < s.cfg.ramSize) :
    writeRam off data s =
      .next { s with ram := Memory.write ramBlank s.ram (ramIndex s.win.ram off) data, answer := .done } := by
  rw [writeRam, if_neg h, if_pos inside]
  rfl

/-- A RAM write that goes on changes nothing, or stores one byte inside the image. -/
theorem writeRam_next {off : BitVec 13} {data : Byte} {s t : State} (h : writeRam off data s = .next t) :
    (s.cfg.rambanks = 0 ∧ t = { s with answer := .done }) ∨
      (ramIndex s.win.ram off < s.cfg.ramSize ∧
        t = { s with ram := Memory.write ramBlank s.ram (ramIndex s.win.ram off) data, answer := .done }) := by
  unfold writeRam at h
  split at h
  · injection h with h
    exact .inl ⟨‹_›, h.symm⟩
  · split at h
    · injection h with h
      exact .inr ⟨‹_›, h.symm⟩
    · nomatch h

end Sys2Proof.Machine
end

