-- ==== Sys2Proof/Laws/Words.lean ====
section
/-! SUPPORT. The fields of a packed transaction word, masks that ignore its low bits, and fields of numbers. -/

namespace Sys2Proof

/-- Every bit of a packed word. -/
theorem getLsbD_pack (rw : Bool) (a : Addr) (d : Byte) (i : Nat) :
    (pack rw a d).getLsbD i =
      if i < 8 then d.getLsbD i else if i < 24 then a.getLsbD (i - 8) else (decide (i = 24) && rw) := by
  have e : (pack rw a d).getLsbD i = (BitVec.append (BitVec.append (BitVec.ofBool rw) a) d).getLsbD i := rfl
  rw [e]
  have e2 := BitVec.getLsbD_append (x := BitVec.append (BitVec.ofBool rw) a) (y := d) (i := i)
  have e1 := BitVec.getLsbD_append (x := BitVec.ofBool rw) (y := a) (i := i - 8)
  refine e2.trans ?_
  by_cases h8 : i < 8
  · simp [h8]
  · rw [if_neg h8, if_neg h8]
    refine e1.trans ?_
    by_cases h24 : i < 24
    · simp [h24, show i - 8 < 16 by omega]
    · have h : ¬ i - 8 < 16 := by omega
      rw [if_neg h, if_neg h24, BitVec.getLsbD_ofBool]
      have : (i - 8 - 16 = 0) ↔ i = 24 := by omega
      simp [this]

/-- Every bit of an address made of a window number and an offset. -/
theorem getLsbD_window {k n : Nat} (hi : BitVec k) (off : BitVec n) (i : Nat) :
    (hi ++ off).getLsbD i = if i < n then off.getLsbD i else hi.getLsbD (i - n) := by
  rw [BitVec.getLsbD_append]

@[simp] theorem tRw_pack (rw : Bool) (a : Addr) (d : Byte) : tRw (pack rw a d) = rw := by
  simp [tRw, getLsbD_pack, -BitVec.getLsbD_eq_getElem]

@[simp] theorem tAddr_pack (rw : Bool) (a : Addr) (d : Byte) : tAddr (pack rw a d) = a := by
  apply BitVec.eq_of_getLsbD_eq
  intro i hi
  rw [tAddr, BitVec.getLsbD_extractLsb', getLsbD_pack]
  simp [hi, show 8 + i < 24 by omega]

@[simp] theorem tData_pack (rw : Bool) (a : Addr) (d : Byte) : tData (pack rw a d) = d := by
  apply BitVec.eq_of_getLsbD_eq
  intro i hi
  rw [tData, BitVec.getLsbD_extractLsb', getLsbD_pack]
  simp [hi]

/-- Every word is the packing of its three fields. -/
theorem pack_fields (t : Word) : pack (tRw t) (tAddr t) (tData t) = t := by
  apply BitVec.eq_of_getLsbD_eq
  intro i hi
  rw [getLsbD_pack]
  by_cases h8 : i < 8
  · simp [tData, h8]
  · by_cases h24 : i < 24
    · have h2 : 8 + (i - 8) = i := by omega
      simp [tAddr, h8, h24, h2, show i - 8 < 16 by omega]
    · have h1 : i = 24 := by omega
      subst h1
      simp [tRw]

/-- Below bit `k` a masked word reads nothing when the mask is clear there. -/
theorem and_eq_of_agree {w : Nat} (x y m : BitVec w) (k : Nat) (agree : ∀ i, k ≤ i → x.getLsbD i = y.getLsbD i)
    (clear : ∀ i, i < k → m.getLsbD i = false) : x &&& m = y &&& m := by
  apply BitVec.eq_of_getLsbD_eq
  intro i _
  rw [BitVec.getLsbD_and, BitVec.getLsbD_and]
  by_cases h : i < k
  · simp [clear i h]
  · rw [agree i (Nat.not_lt.mp h)]

theorem getLsbD_of_low_clear {w : Nat} (m : BitVec w) (k : Nat) (h : m.toNat % 2 ^ k = 0) (i : Nat) (lt : i < k) :
    m.getLsbD i = false := by
  have e := Nat.testBit_mod_two_pow m.toNat k i
  rw [h] at e
  simpa [lt, BitVec.getLsbD] using e.symm

/-- The datum of a packed word does not reach a mask whose low byte is clear. -/
theorem pack_data_and (rw : Bool) (a : Addr) (d : Byte) (m : Word) (h : m.toNat % 2 ^ 8 = 0) :
    pack rw a d &&& m = pack rw a 0#8 &&& m := by
  refine and_eq_of_agree _ _ m 8 (fun i le => ?_) (getLsbD_of_low_clear m 8 h)
  rw [getLsbD_pack, getLsbD_pack, if_neg (Nat.not_lt.mpr le), if_neg (Nat.not_lt.mpr le)]

/-- The offset in the RAM window and the datum do not reach a mask whose low 21 bits are clear. -/
theorem pack_off13_and (rw : Bool) (hi : BitVec 3) (off : BitVec 13) (d : Byte) (m : Word)
    (h : m.toNat % 2 ^ 21 = 0) : pack rw (hi ++ off) d &&& m = pack rw (hi ++ 0#13) 0#8 &&& m := by
  refine and_eq_of_agree _ _ m 21 (fun i le => ?_) (getLsbD_of_low_clear m 21 h)
  have h1 : ¬ i < 8 := by omega
  have h2 : ¬ i - 8 < 13 := by omega
  rw [getLsbD_pack, getLsbD_pack, if_neg h1, if_neg h1, getLsbD_window hi off, getLsbD_window hi 0#13, if_neg h2,
    if_neg h2]

/-- The offset in a ROM window and the datum do not reach a mask whose low 22 bits are clear. -/
theorem pack_off14_and (rw : Bool) (hi : BitVec 2) (off : BitVec 14) (d : Byte) (m : Word)
    (h : m.toNat % 2 ^ 22 = 0) : pack rw (hi ++ off) d &&& m = pack rw (hi ++ 0#14) 0#8 &&& m := by
  refine and_eq_of_agree _ _ m 22 (fun i le => ?_) (getLsbD_of_low_clear m 22 h)
  have h1 : ¬ i < 8 := by omega
  have h2 : ¬ i - 8 < 14 := by omega
  rw [getLsbD_pack, getLsbD_pack, if_neg h1, if_neg h1, getLsbD_window hi off, getLsbD_window hi 0#14, if_neg h2,
    if_neg h2]

@[simp] theorem off13_of_window (hi : BitVec 3) (off : BitVec 13) :
    BitVec.extractLsb' 0 13 (hi ++ off : Addr) = off := by
  apply BitVec.eq_of_getLsbD_eq
  intro i h
  rw [BitVec.getLsbD_extractLsb', getLsbD_window hi off]
  simp [h]

@[simp] theorem top3_of_window13 (hi : BitVec 3) (off : BitVec 13) :
    BitVec.extractLsb' 13 3 (hi ++ off : Addr) = hi := by
  apply BitVec.eq_of_getLsbD_eq
  intro i h
  rw [BitVec.getLsbD_extractLsb', getLsbD_window hi off]
  simp [h]

@[simp] theorem off14_of_window (hi : BitVec 2) (off : BitVec 14) :
    BitVec.extractLsb' 0 14 (hi ++ off : Addr) = off := by
  apply BitVec.eq_of_getLsbD_eq
  intro i h
  rw [BitVec.getLsbD_extractLsb', getLsbD_window hi off]
  simp [h]

@[simp] theorem top2_of_window14 (hi : BitVec 2) (off : BitVec 14) :
    BitVec.extractLsb' 14 2 (hi ++ off : Addr) = hi := by
  apply BitVec.eq_of_getLsbD_eq
  intro i h
  rw [BitVec.getLsbD_extractLsb', getLsbD_window hi off]
  simp [h]

/-- The top bit of a three-bit field is clear when the top bit of its two-bit field is. -/
theorem top3_of_top2 (a : Addr) : a.extractLsb' 13 3 = a.extractLsb' 14 2 ++ a.extractLsb' 13 1 := by
  apply BitVec.eq_of_getLsbD_eq
  intro i h
  have e := getLsbD_window (a.extractLsb' 14 2) (a.extractLsb' 13 1) i
  rw [BitVec.getLsbD_extractLsb']
  refine Eq.trans ?_ e.symm
  by_cases h1 : i < 1
  · have : i = 0 := by omega
    subst this
    simp
  · have e2 : 14 + (i - 1) = 13 + i := by omega
    simp [h, h1, e2, show i - 1 < 2 by omega]

/-! ## Fields of numbers -/

theorem nat_and_low (x w : Nat) : x &&& (2 ^ w - 1) = x % 2 ^ w := Nat.and_two_pow_sub_one_eq_mod x w

/-- A field of `w` bits at bit `k`, left in place. -/
theorem nat_and_field (x k w : Nat) : x &&& ((2 ^ w - 1) * 2 ^ k) = x / 2 ^ k % 2 ^ w * 2 ^ k := by
  apply Nat.eq_of_testBit_eq
  intro i
  rw [Nat.testBit_and, Nat.testBit_mul_two_pow, Nat.testBit_mul_two_pow, Nat.testBit_two_pow_sub_one,
    Nat.testBit_mod_two_pow, Nat.testBit_div_two_pow]
  by_cases h : k ≤ i
  · have e : k + (i - k) = i := by omega
    simp [h, Bool.and_comm]
  · simp [h]

/-- A high part and a low part that do not overlap. -/
theorem nat_or_parts (a b k : Nat) (lt : b < 2 ^ k) : a * 2 ^ k ||| b = a * 2 ^ k + b := by
  rw [Nat.mul_comm, Nat.two_pow_add_eq_or_of_lt lt]

theorem nat_or_parts' (a b k : Nat) (lt : b < 2 ^ k) : b ||| a * 2 ^ k = a * 2 ^ k + b := by
  rw [Nat.or_comm, nat_or_parts a b k lt]

end Sys2Proof
end

