-- ==== Sys2Proof/Laws/Banks.lean ====
section
/-! SUPPORT. Operands and banks as numbers: one lemma per operand form and per bank function. -/

namespace Sys2Proof.Machine

/-! ## Operands -/

theorem bankLow5_toNat (data : Byte) : (bankLow5 data).toNat = data.toNat % 32 := by
  have := nat_and_low data.toNat 5
  have := data.isLt
  simp only [bankLow5, BitVec.toNat_setWidth, BitVec.toNat_and]
  norm_num at *
  omega

theorem bankLow4_toNat (data : Byte) : (bankLow4 data).toNat = data.toNat % 16 := by
  have := nat_and_low data.toNat 4
  simp only [bankLow4, BitVec.toNat_setWidth, BitVec.toNat_and]
  norm_num at *
  omega

theorem bankLow6_toNat (data : Byte) : (bankLow6 data).toNat = data.toNat % 64 := by
  have := nat_and_low data.toNat 6
  simp only [bankLow6, BitVec.toNat_setWidth, BitVec.toNat_and]
  norm_num at *
  omega

theorem bankLow7_toNat (data : Byte) : (bankLow7 data).toNat = data.toNat % 128 := by
  have := nat_and_low data.toNat 7
  simp only [bankLow7, BitVec.toNat_setWidth, BitVec.toNat_and]
  norm_num at *
  omega

theorem ramBankLow2_toNat (data : Byte) : (ramBankLow2 data).toNat = data.toNat % 4 := by
  have := nat_and_low data.toNat 2
  simp only [ramBankLow2, BitVec.toNat_and]
  norm_num at *
  omega

theorem ramBankLow4_toNat (data : Byte) : (ramBankLow4 data).toNat = data.toNat % 16 := by
  have := nat_and_low data.toNat 4
  simp only [ramBankLow4, BitVec.toNat_and]
  norm_num at *
  omega

theorem bankByte_toNat (data : Byte) : (bankByte data).toNat = data.toNat := by
  have := data.isLt
  simp only [bankByte, BitVec.toNat_setWidth]
  omega

theorem bankHigh2_toNat (data : Byte) : (bankHigh2 data).toNat = data.toNat % 4 * 32 := by
  have := data.isLt
  have e := nat_and_field (data.toNat * 32) 5 2
  simp only [bankHigh2, BitVec.toNat_and, BitVec.toNat_shiftLeft, BitVec.toNat_setWidth, Nat.shiftLeft_eq]
  norm_num at *
  rw [Nat.mod_eq_of_lt (show data.toNat * 32 < 65536 by omega), e]

theorem bankBit8_toNat (data : Byte) : (bankBit8 data).toNat = data.toNat % 2 * 256 := by
  have := data.isLt
  have e := nat_and_field (data.toNat * 256) 8 1
  simp only [bankBit8, BitVec.toNat_and, BitVec.toNat_shiftLeft, BitVec.toNat_setWidth, Nat.shiftLeft_eq]
  norm_num at *
  rw [Nat.mod_eq_of_lt (show data.toNat * 256 < 65536 by omega), e]

theorem bankHighByte_toNat (data : Byte) : (bankHighByte data).toNat = data.toNat * 256 := by
  have := data.isLt
  simp only [bankHighByte, BitVec.toNat_shiftLeft, BitVec.toNat_setWidth, Nat.shiftLeft_eq]
  norm_num
  omega

theorem dataBit0_eq (data : Byte) : dataBit0 data = decide (data.toNat % 2 = 1) := by
  simp [dataBit0, BitVec.getLsbD, Nat.testBit_zero]

theorem ramEnableValue_eq (data : Byte) : ramEnableValue data = enables data := by
  have e := nat_and_low data.toNat 4
  norm_num at e
  rw [ramEnableValue, enables, Bool.eq_iff_iff, beq_iff_eq, decide_eq_true_iff, ← BitVec.toNat_inj, BitVec.toNat_and]
  norm_num
  rw [e]

/-! ## Banks built from two parts -/

theorem withBankLow5_toNat (bank : RomBank) (data : Byte) :
    (withBankLow5 bank data).toNat = bank.toNat / 32 % 4 * 32 + data.toNat % 32 := by
  have e := nat_and_field bank.toNat 5 2
  have o := nat_or_parts (bank.toNat / 32 % 4) (data.toNat % 32) 5 (by norm_num; omega)
  rw [withBankLow5, BitVec.toNat_or, BitVec.toNat_and, bankLow5_toNat]
  norm_num at *
  rw [e, o]

theorem withBankHigh2_toNat (bank : RomBank) (data : Byte) :
    (withBankHigh2 bank data).toNat = data.toNat % 4 * 32 + bank.toNat % 32 := by
  have e := nat_and_low bank.toNat 5
  have o := nat_or_parts (data.toNat % 4) (bank.toNat % 32) 5 (by norm_num; omega)
  rw [withBankHigh2, BitVec.toNat_or, BitVec.toNat_and, bankHigh2_toNat]
  norm_num at *
  rw [e, o]

/-- MBC5.ROMB0: bit 8 is kept. -/
theorem withLowByte9_toNat (bank : RomBank) (data : Byte) :
    ((bank &&& 0x100#16) ||| bankByte data).toNat = bank.toNat / 256 % 2 * 256 + data.toNat := by
  have e := nat_and_field bank.toNat 8 1
  have o := nat_or_parts (bank.toNat / 256 % 2) data.toNat 8 (by have := data.isLt; norm_num; omega)
  rw [BitVec.toNat_or, BitVec.toNat_and, bankByte_toNat]
  norm_num at *
  rw [e, o]

/-- MBC5.ROMB1: the low byte is kept. -/
theorem withBit8_toNat (bank : RomBank) (data : Byte) :
    (bankBit8 data ||| (bank &&& 0xFF#16)).toNat = data.toNat % 2 * 256 + bank.toNat % 256 := by
  have e := nat_and_low bank.toNat 8
  have o := nat_or_parts (data.toNat % 2) (bank.toNat % 256) 8 (by norm_num; omega)
  rw [BitVec.toNat_or, BitVec.toNat_and, bankBit8_toNat]
  norm_num at *
  rw [e, o]

/-- TPP1.MR0: the high byte is kept. -/
theorem withLowByte16_toNat (bank : RomBank) (data : Byte) :
    ((bank &&& 0xFF00#16) ||| bankByte data).toNat = bank.toNat / 256 * 256 + data.toNat := by
  have e := nat_and_field bank.toNat 8 8
  have lt := bank.isLt
  have o := nat_or_parts (bank.toNat / 256) data.toNat 8 (by have := data.isLt; norm_num; omega)
  rw [BitVec.toNat_or, BitVec.toNat_and, bankByte_toNat]
  norm_num at *
  rw [e, Nat.mod_eq_of_lt (show bank.toNat / 256 < 256 by omega), o]

/-- TPP1.MR1: the low byte is kept. -/
theorem withHighByte16_toNat (bank : RomBank) (data : Byte) :
    (bankHighByte data ||| (bank &&& 0x00FF#16)).toNat = data.toNat * 256 + bank.toNat % 256 := by
  have e := nat_and_low bank.toNat 8
  have o := nat_or_parts data.toNat (bank.toNat % 256) 8 (by norm_num; omega)
  rw [BitVec.toNat_or, BitVec.toNat_and, bankHighByte_toNat]
  norm_num at *
  rw [e, o]

/-- The HuC1 bank in mode 0. -/
theorem huc1RomBank_toNat (m : Mapper) (lt : m.rombank.toNat < 64) :
    (huc1RomBank m).toNat = if m.ramBankMode then m.rombank.toNat else m.rambank.toNat * 64 + m.rombank.toNat := by
  have l := m.rambank.isLt
  have o := nat_or_parts m.rambank.toNat m.rombank.toNat 6 (by norm_num; omega)
  unfold huc1RomBank
  by_cases h : m.ramBankMode
  · simp [h]
  · rw [if_neg h, if_neg h, BitVec.toNat_or, BitVec.toNat_shiftLeft, BitVec.toNat_setWidth, Nat.shiftLeft_eq]
    norm_num at *
    rw [Nat.mod_eq_of_lt (show m.rambank.toNat * 64 < 65536 by omega), o]

theorem toMulti64_toNat (bank : RomBank) :
    (toMulti64 bank).toNat = bank.toNat / 32 % 4 * 16 + bank.toNat % 16 := by
  have e := nat_and_field (bank.toNat / 2) 4 2
  have e' := nat_and_low bank.toNat 4
  have o := nat_or_parts (bank.toNat / 32 % 4) (bank.toNat % 16) 4 (by norm_num; omega)
  rw [toMulti64, BitVec.toNat_or, BitVec.toNat_and, BitVec.toNat_and, BitVec.toNat_ushiftRight, Nat.shiftRight_eq_div_pow]
  norm_num at *
  rw [e, e', Nat.div_div_eq_div_mul, o]

/-- The low window's bank in the multicart mode. -/
theorem toMulti64_subcart_toNat (bank : RomBank) :
    (toMulti64 bank &&& 0x30#16).toNat = bank.toNat / 32 % 4 * 16 := by
  have e := nat_and_field (toMulti64 bank).toNat 4 2
  have t := toMulti64_toNat bank
  rw [BitVec.toNat_and]
  norm_num at *
  rw [e, t]
  omega

theorem adjusted_toNat (bank : RomBank) :
    (adjusted bank).toNat = adjustedNumber bank.toNat := by
  have e := nat_and_low bank.toNat 5
  have z : (bank &&& 0x1F#16 = 0#16) ↔ bank.toNat % 32 = 0 := by
    rw [← BitVec.toNat_inj, BitVec.toNat_and]
    norm_num at *
    rw [e]
  unfold adjusted adjustedNumber
  by_cases h : bank.toNat % 32 = 0
  · have o := nat_or_parts (bank.toNat / 32) 1 5 (by norm_num)
    rw [if_pos (z.mpr h), if_pos h, BitVec.toNat_or]
    norm_num at *
    rwa [show bank.toNat / 32 * 32 = bank.toNat by omega] at o
  · rw [if_neg (fun c => h (z.mp c)), if_neg h]

theorem zeroToOne_toNat (bank : RomBank) :
    (zeroToOne bank).toNat = if bank.toNat = 0 then 1 else bank.toNat := by
  unfold zeroToOne
  by_cases h : bank = 0#16
  · subst h; rfl
  · have : bank.toNat ≠ 0 := fun c => h (BitVec.eq_of_toNat_eq c)
    simp [h, this]

/-! ## Masks by the number of banks -/

theorem isPow2_iff (n : Nat) : isPow2 n = true ↔ n = 2 ^ n.log2 := by simp [isPow2]

theorem isPow2_two_pow (k : Nat) : isPow2 (2 ^ k) = true := by
  rw [isPow2_iff, Nat.log2_two_pow]

/-- A mask of a power of two less one is a remainder, also when it is wider than the bank. -/
theorem and_ofNat_pow2_sub_one {w : Nat} (x : BitVec w) {n : Nat} (h : isPow2 n = true) :
    (x &&& BitVec.ofNat w (n - 1)).toNat = x.toNat % n := by
  have e := (isPow2_iff n).mp h
  generalize n.log2 = k at e
  subst e
  rw [BitVec.toNat_and, BitVec.toNat_ofNat]
  apply Nat.eq_of_testBit_eq
  intro i
  rw [Nat.testBit_and, Nat.testBit_mod_two_pow, Nat.testBit_mod_two_pow, Nat.testBit_two_pow_sub_one]
  by_cases hi : i < w
  · simp [hi, Bool.and_comm]
  · have : x.toNat.testBit i = false :=
      Nat.testBit_lt_two_pow (lt_of_lt_of_le x.isLt (Nat.pow_le_pow_right (by norm_num) (Nat.not_lt.mp hi)))
    simp [this]

/-- What the constraints of a configuration say. -/
theorem Cfg.legal_iff (c : Cfg) : c.legal = true ↔
    isPow2 c.rombanks = true ∧ 2 ≤ c.rombanks ∧ (c.rambanks = 0 ∨ isPow2 c.rambanks = true)
      ∧ (c.rtcWired = true → c.variant = .mbc3) ∧ (c.variant = .mbc1m64 → c.rombanks = 64 ∧ c.rambanks = 0)
      ∧ (c.variant = .mbc2 → c.rambanks ≠ 0) ∧ (c.variant = .tpp1 → c.rambanks ≤ 256) := by
  unfold Cfg.legal
  cases c.rtcWired <;> simp [and_assoc, or_iff_not_imp_left]

/-- The unlisted RAM codes give a power of two, so never 0. -/
theorem rambanksUnlisted_isPow2 (c : Byte) : isPow2 (Config.rambanksUnlisted c) = true := isPow2_two_pow _

theorem rambanksUnlisted_ne_zero (c : Byte) : Config.rambanksUnlisted c ≠ 0 := Nat.two_pow_pos _ |>.ne'

/-- An MBC2 has its RAM whatever the RAM size code (spec/00_scope.md R6, spec/60_exceptions.md R334). -/
theorem ramBanksOfCode_mbc2_ne_zero (c : Byte) : ramBanksOfCode .mbc2 c ≠ 0 := by
  unfold ramBanksOfCode
  repeat' split
  all_goals first | exact rambanksUnlisted_ne_zero c | decide | contradiction

/-- A TPP1 has at most 256 RAM banks (spec/00_scope.md R6). -/
theorem ramBanksOfTpp1_le (c : Byte) : ramBanksOfTpp1 c ≤ 256 := by
  unfold ramBanksOfTpp1
  split
  · decide
  · exact Nat.pow_le_pow_right (by decide) (Nat.min_le_right _ _)

theorem romBankMask_toNat (bank : RomBank) (s : State) (h : s.cfg.legal = true) :
    (romBankMask bank s).toNat = bank.toNat % s.cfg.rombanks :=
  and_ofNat_pow2_sub_one bank ((Cfg.legal_iff s.cfg).mp h).1

theorem ramBankEff_toNat (bank : RamBank) (s : State) (h : s.cfg.legal = true) :
    (ramBankEff bank s).toNat = ramBankNumber s.cfg bank.toNat := by
  unfold ramBankEff ramBankNumber
  by_cases h0 : s.cfg.rambanks = 0
  · simp [h0]
  · rw [if_neg h0, if_neg h0]
    exact and_ofNat_pow2_sub_one bank (((Cfg.legal_iff s.cfg).mp h).2.2.1.resolve_left h0)

/-! ## The status byte -/

/-- The TPP1 status byte as a number: ones in the top nibble, overflow, running, rumble (spec/10_state.md R47). -/
theorem txStatus_toNat (x : Tx) :
    (txStatus x).toNat = 0xF0 + 8 * bit x.overflow + 4 * bit x.running + x.rumble.toNat := by
  have key : ∀ (r : BitVec 2) (run ovf : Bool),
      (r.setWidth 8 ||| ((BitVec.ofBool run).setWidth 8 <<< 2) ||| ((BitVec.ofBool ovf).setWidth 8 <<< 3) ||| 0xF0#8).toNat
        = 0xF0 + 8 * bit ovf + 4 * bit run + r.toNat := by decide
  exact key x.rumble x.running x.overflow

end Sys2Proof.Machine
end

