-- ==== Sys2Proof/Laws/Aim.lean ====
section
/-! SUPPORT. `sync()` in closed form, and what the window invariant says of each field (spec/10_state.md R31, R42, R52). -/

namespace Sys2Proof.Machine

/-- A bank masked by the number of ROM banks. -/
def maskRom (c : Cfg) (bank : RomBank) : RomBank := bank &&& BitVec.ofNat 16 (c.rombanks - 1)

/-- A bank masked by the number of RAM banks. -/
def effRam (c : Cfg) (bank : RamBank) : RamBank :=
  if c.rambanks = 0 then 0#8 else bank &&& BitVec.ofNat 8 (c.rambanks - 1)

theorem romBankMask_eq (bank : RomBank) (s : State) : romBankMask bank s = maskRom s.cfg bank := rfl

theorem ramBankEff_eq (bank : RamBank) (s : State) : ramBankEff bank s = effRam s.cfg bank := rfl

theorem maskRom_toNat (c : Cfg) (bank : RomBank) (h : c.legal = true) :
    (maskRom c bank).toNat = bank.toNat % c.rombanks :=
  and_ofNat_pow2_sub_one bank ((Cfg.legal_iff c).mp h).1

theorem effRam_toNat (c : Cfg) (bank : RamBank) (h : c.legal = true) :
    (effRam c bank).toNat = ramBankNumber c bank.toNat := by
  unfold effRam ramBankNumber
  by_cases h0 : c.rambanks = 0
  · simp [h0]
  · rw [if_neg h0, if_neg h0]
    exact and_ofNat_pow2_sub_one bank (((Cfg.legal_iff c).mp h).2.2.1.resolve_left h0)

/-- The windows of the TPP1 map modes (spec/42_tpp1_extension.md R215). -/
def tpp1Windows (c : Cfg) (m : Mapper) : Windows :=
  if m.mapmode = 0#2 then ⟨0#16, maskRom c m.rombank, effRam c m.rambank, true, false, true⟩
  else if m.mapmode = 1#2 then ⟨0#16, maskRom c m.rombank, effRam c m.rambank, true, false, false⟩
  else if m.mapmode = 2#2 then ⟨0#16, maskRom c m.rombank, effRam c m.rambank, true, true, false⟩
  else ⟨0#16, maskRom c m.rombank, effRam c m.rambank, c.features.getLsbD 2, c.features.getLsbD 2, c.features.getLsbD 2⟩

/-- The windows as a function of the configuration and the mapper registers. -/
def windowsOf (c : Cfg) (m : Mapper) : Windows :=
  match c.variant with
  | .plain => ⟨0#16, maskRom c m.rombank, effRam c 0#8, m.enableRam, m.enableRam, false⟩
  | .mbc1 => ⟨0#16, maskRom c (adjusted m.rombank), effRam c m.rambank, m.enableRam, m.enableRam, false⟩
  | .mbc1m64 =>
    if m.ramBankMode then
      ⟨toMulti64 m.rombank &&& 0x30#16, adjusted (toMulti64 m.rombank), 0#8, m.enableRam, m.enableRam, false⟩
    else ⟨0#16, maskRom c (adjusted m.rombank), 0#8, m.enableRam, m.enableRam, false⟩
  | .mbc2 => ⟨0#16, maskRom c m.rombank, effRam c 0#8, m.enableRam, m.enableRam, false⟩
  | .mbc3 => ⟨0#16, maskRom c (zeroToOne m.rombank), effRam c m.rambank, m.enableRam, m.enableRam,
      c.rtcWired && (rtcRegOf m.rambank).isSome⟩
  | .huc1 => ⟨0#16, maskRom c (huc1RomBank m), if m.ramBankMode then effRam c m.rambank else 0#8, true, m.enableRam,
      false⟩
  | .mbc5 => ⟨0#16, maskRom c m.rombank, effRam c m.rambank, m.enableRam, m.enableRam, false⟩
  | .tpp1 => tpp1Windows c m

/-- The clock selection `sync()` leaves. -/
def selectionOf (c : Cfg) (m : Mapper) (r : Rtc) : Rtc :=
  if c.variant = .mbc3 ∧ c.rtcWired = true then
    { r with active := (rtcRegOf m.rambank).isSome, index := (rtcRegOf m.rambank).getD .s }
  else r

/-- The map mode `sync()` leaves in TX. -/
def curmapOf (c : Cfg) (m : Mapper) (x : Tx) : Tx :=
  if c.variant = .tpp1 then { x with curmap := m.mapmode } else x

/-- `sync()` in closed form. -/
theorem sync_eq (s : State) :
    sync s = { s with
      win := windowsOf s.cfg s.mapper, rtc := selectionOf s.cfg s.mapper s.rtc, tx := curmapOf s.cfg s.mapper s.tx } := by
  unfold sync windowsOf selectionOf curmapOf
  cases hv : s.cfg.variant with
  | mbc1m64 =>
    unfold aimRamM64 aimRomM64
    cases s.mapper.ramBankMode <;> rfl
  | mbc3 =>
    cases hw : s.cfg.rtcWired
    · simp only [aimRamMbc3, aimRomMbc3, setRombank_cfg, setRombank0_cfg, hw]
      rfl
    · simp only [aimRamMbc3, aimRomMbc3, setRombank_cfg, setRombank0_cfg, hw]
      rfl
  | tpp1 =>
    unfold aimRamTpp1 tpp1Windows
    by_cases h0 : s.mapper.mapmode = 0#2
    · simp only [aimRomTpp1, aimRomMasked, txSetmap, setRombank_mapper, setRombank0_mapper, setTx_mapper, h0]
      rfl
    · by_cases h1 : s.mapper.mapmode = 1#2
      · simp only [aimRomTpp1, aimRomMasked, txSetmap, setRombank_mapper, setRombank0_mapper, setTx_mapper, h1]
        rfl
      · by_cases h2 : s.mapper.mapmode = 2#2
        · simp only [aimRomTpp1, aimRomMasked, txSetmap, setRombank_mapper, setRombank0_mapper, setTx_mapper, h2]
          rfl
        · simp only [aimRomTpp1, aimRomMasked, txSetmap, setRombank_mapper, setRombank0_mapper, setTx_mapper, h0, h1, h2]
          rfl
  | _ => rfl

/-- The window invariant field by field. -/
theorem sync_fixed_iff (s : State) :
    sync s = s ↔
      s.win = windowsOf s.cfg s.mapper ∧ s.rtc = selectionOf s.cfg s.mapper s.rtc
        ∧ s.tx = curmapOf s.cfg s.mapper s.tx := by
  rw [sync_eq]
  constructor
  · intro h
    exact ⟨(congrArg State.win h).symm, (congrArg State.rtc h).symm, (congrArg State.tx h).symm⟩
  · rintro ⟨h1, h2, h3⟩
    rw [← h1, ← h2, ← h3]

/-- Restoring the windows twice is restoring them once. -/
theorem sync_sync (s : State) : sync (sync s) = sync s := by
  rw [sync_fixed_iff, sync_eq]
  refine ⟨rfl, ?_, ?_⟩
  · simp only [selectionOf]
    split <;> rfl
  · simp only [curmapOf]
    split <;> rfl

/-- In every state of the invariant the windows are `windowsOf`. -/
theorem Invariant.win_eq {s : State} (h : Invariant s) : s.win = windowsOf s.cfg s.mapper := ((sync_fixed_iff s).mp h.windows).1

end Sys2Proof.Machine
end

