-- ==== Sys2Proof/Laws/Clock.lean ====
section
/-! SUPPORT. The two clocks: the closed form of the period loop (spec/41_rtc_mbc3.md R173, spec/42_tpp1_extension.md
R204), and what a latch leaves in each register. -/

namespace Sys2Proof.Machine

theorem seconds_toNat (n : Nat) : (seconds n).toNat = n % 2 ^ 32 := by
  simp [seconds]

theorem seconds_add (a b : Nat) : seconds a + seconds b = seconds (a + b) := by
  simp [seconds, BitVec.ofNat_add]

/-- The loop takes out the quotient times the period, keeps the remainder, and raises the flag if it ran. -/
theorem dropPeriods_eq (period : Time) (pos : 0 < period.toNat) (n : Nat) (base tmp : Time) (flag : Bool)
    (enough : tmp.toNat / period.toNat ≤ n) :
    dropPeriods period n base tmp flag =
      (base + seconds (tmp.toNat / period.toNat * period.toNat), seconds (tmp.toNat % period.toNat),
        flag || decide (period.toNat ≤ tmp.toNat)) := by
  induction n generalizing base tmp flag with
  | zero =>
    have lt : tmp.toNat < period.toNat := by
      rcases Nat.div_eq_zero_iff.mp (Nat.le_zero.mp enough) with h | h
      · omega
      · exact h
    simp [dropPeriods, Nat.div_eq_of_lt lt, Nat.mod_eq_of_lt lt, Nat.not_le.mpr lt, seconds]
  | succ n ih =>
    by_cases le : period.toNat ≤ tmp.toNat
    · have sub : (tmp - period).toNat = tmp.toNat - period.toNat := BitVec.toNat_sub_of_le le
      have hd : tmp.toNat / period.toNat = (tmp.toNat - period.toNat) / period.toNat + 1 := by
        rw [Nat.div_eq_sub_div pos le]
      have hm : tmp.toNat % period.toNat = (tmp.toNat - period.toNat) % period.toNat := by
        rw [Nat.mod_eq_sub_mod le]
      have step := ih (base + period) (tmp - period) true (by rw [sub]; omega)
      rw [dropPeriods, if_pos (BitVec.le_def.mpr le), step, sub, ← hm, hd]
      have e : period = seconds period.toNat := by simp [seconds]
      have hb : base + period + seconds ((tmp.toNat - period.toNat) / period.toNat * period.toNat)
          = base + seconds (((tmp.toNat - period.toNat) / period.toNat + 1) * period.toNat) := by
        rw [BitVec.add_assoc]
        conv_lhs => rw [show base + (period + seconds ((tmp.toNat - period.toNat) / period.toNat * period.toNat))
          = base + (seconds period.toNat + seconds ((tmp.toNat - period.toNat) / period.toNat * period.toNat)) by
            rw [← e]]
        rw [seconds_add]
        congr 2
        ring
      rw [hb]
      simp [le]
    · have lt : tmp.toNat < period.toNat := Nat.not_le.mp le
      rw [dropPeriods, if_neg (fun c => le (BitVec.le_def.mp c))]
      simp [Nat.div_eq_of_lt lt, Nat.mod_eq_of_lt lt, le, seconds]

/-- The loop of the MBC3 latch; 97 rounds are enough for every 32-bit time. -/
theorem rtc_dropPeriods (base tmp : Time) (flag : Bool) :
    dropPeriods rtcPeriod 97 base tmp flag =
      (base + seconds (tmp.toNat / 44236800 * 44236800), seconds (tmp.toNat % 44236800),
        flag || decide (44236800 ≤ tmp.toNat)) :=
  dropPeriods_eq rtcPeriod (by decide) 97 base tmp flag (by
    have := tmp.isLt
    show tmp.toNat / 44236800 ≤ 97
    omega)

/-- The loop of the TPP1 latch; 27 rounds are enough for every 32-bit time. -/
theorem tx_dropPeriods (base tmp : Time) (flag : Bool) :
    dropPeriods txPeriod 27 base tmp flag =
      (base + seconds (tmp.toNat / 154828800 * 154828800), seconds (tmp.toNat % 154828800),
        flag || decide (154828800 ≤ tmp.toNat)) :=
  dropPeriods_eq txPeriod (by decide) 27 base tmp flag (by
    have := tmp.isLt
    show tmp.toNat / 154828800 ≤ 27
    omega)

/-- The three parts of a latched day-high byte. -/
theorem dhLatched_parts (dh : Byte) (day8 carried : Bool) :
    (dhLatched dh day8 carried).getLsbD 0 = day8 ∧ (dhLatched dh day8 carried).getLsbD 7 = (dh.getLsbD 7 || carried)
      ∧ (dhLatched dh day8 carried).extractLsb' 1 6 = dh.extractLsb' 1 6 := by
  revert dh day8 carried
  decide +revert

/-- What an MBC3 latch leaves in every field. -/
theorem rtcLatchAt_eq (t : Time) (r : Rtc) :
    rtcLatchAt t r =
      { r with
        baseTime := r.baseTime + seconds ((rtcElapsed t r).toNat / 44236800 * 44236800)
        s := BitVec.ofNat 8 ((rtcElapsed t r).toNat % 44236800 % 60)
        m := BitVec.ofNat 8 ((rtcElapsed t r).toNat % 44236800 % 3600 / 60)
        h := BitVec.ofNat 8 ((rtcElapsed t r).toNat % 44236800 % 86400 / 3600)
        dl := BitVec.ofNat 8 ((rtcElapsed t r).toNat % 44236800 / 86400)
        dh := dhLatched r.dh ((rtcElapsed t r).toNat % 44236800 / 86400 / 256 % 2 == 1)
          (decide (44236800 ≤ (rtcElapsed t r).toNat)) } := by
  have m : (seconds ((rtcElapsed t r).toNat % 44236800)).toNat = (rtcElapsed t r).toNat % 44236800 := by
    rw [seconds_toNat]
    exact Nat.mod_eq_of_lt (lt_trans (Nat.mod_lt _ (by norm_num)) (by norm_num))
  simp only [rtcLatchAt, rtc_dropPeriods, rtcDecompose, m, Bool.false_or]

/-- What a TPP1 latch leaves in every field. -/
theorem txLatchAt_eq (t : Time) (x : Tx) :
    txLatchAt t x =
      { x with
        baseTime := x.baseTime + seconds ((txElapsed t x).toNat / 154828800 * 154828800)
        w := BitVec.ofNat 8 ((txElapsed t x).toNat % 154828800 / 604800)
        h := BitVec.ofNat 3 ((txElapsed t x).toNat % 154828800 % 604800 / 86400)
          ++ BitVec.ofNat 5 ((txElapsed t x).toNat % 154828800 % 86400 / 3600)
        m := BitVec.ofNat 8 ((txElapsed t x).toNat % 154828800 % 3600 / 60)
        s := BitVec.ofNat 8 ((txElapsed t x).toNat % 154828800 % 60)
        overflow := x.overflow || decide (154828800 ≤ (txElapsed t x).toNat) } := by
  have m : (seconds ((txElapsed t x).toNat % 154828800)).toNat = (txElapsed t x).toNat % 154828800 := by
    rw [seconds_toNat]
    exact Nat.mod_eq_of_lt (lt_trans (Nat.mod_lt _ (by norm_num)) (by norm_num))
  simp only [txLatchAt, tx_dropPeriods, txDecompose, m]

end Sys2Proof.Machine
end

