-- ==== Sys2Proof/Laws/Clockpath.lean ====
section
/-! SUPPORT. When the RAM window shows clock registers, and which (spec/20_memory.md R95, spec/10_state.md R42). -/

namespace Sys2Proof.Machine

/-- The register index of an offset in the RAM window is the offset modulo 4. -/
theorem offLow2_toNat (off : BitVec 13) : (offLow2 off).toNat = off.toNat % 4 := by
  simp [offLow2]

theorem offLow2_eq_iff (off : BitVec 13) (k : Nat) (lt : k < 4) : offLow2 off = BitVec.ofNat 2 k ↔ off.toNat % 4 = k := by
  rw [← BitVec.toNat_inj, offLow2_toNat, BitVec.toNat_ofNat, Nat.mod_eq_of_lt (show k < 2 ^ 2 by omega)]

/-- The five bank values that select a clock register. -/
theorem rtcRegOf_eq_some {bank : RamBank} {r : RtcReg} (h : rtcRegOf bank = some r) :
    (bank = 0x08#8 ∧ r = .s) ∨ (bank = 0x09#8 ∧ r = .m) ∨ (bank = 0x0A#8 ∧ r = .h) ∨ (bank = 0x0B#8 ∧ r = .dl)
      ∨ (bank = 0x0C#8 ∧ r = .dh) := by
  unfold rtcRegOf at h
  repeat' split at h
  all_goals simp_all

/-- A bank value selects a clock register exactly from `0x08` to `0x0C`. -/
theorem rtcRegOf_isSome (bank : RamBank) :
    (rtcRegOf bank).isSome = decide (0x08 ≤ bank.toNat ∧ bank.toNat ≤ 0x0C) := by
  revert bank
  decide

/-- In a state of the invariant the clock path is open only in a TPP1 in map mode 0 (reads) or 3 with the clock feature, and
in an MBC3 with a clock whose RAM bank register names a clock register. -/
theorem Invariant.clock_path {s : State} (h : Invariant s) (e : s.win.rtcEn = true) :
    (s.cfg.variant = .tpp1 ∧ s.tx.curmap = s.mapper.mapmode ∧
      ((s.mapper.mapmode = 0#2 ∧ s.win.we = false) ∨ (s.mapper.mapmode = 3#2 ∧ s.cfg.features.getLsbD 2 = true))) ∨
    (s.cfg.variant = .mbc3 ∧ s.cfg.rtcWired = true ∧ s.rtc.active = true ∧
      rtcRegOf s.mapper.rambank = some s.rtc.index) := by
  have values : ∀ k : BitVec 2, k ≠ 0#2 → k ≠ 1#2 → k ≠ 2#2 → k = 3#2 := by decide
  obtain ⟨hw, hr, hx⟩ := (sync_fixed_iff s).mp h.windows
  rw [hw] at e
  unfold windowsOf at e
  cases hv : s.cfg.variant <;> rw [hv] at e <;> simp only at e
  case mbc1m64 => split at e <;> simp at e
  case tpp1 =>
    refine .inl ⟨rfl, h.tx.curmap, ?_⟩
    rw [hw]
    unfold windowsOf
    rw [hv]
    unfold tpp1Windows at *
    simp only
    split at e
    · rename_i h0
      exact .inl ⟨h0, by rw [if_pos h0]⟩
    split at e
    · simp at e
    split at e
    · simp at e
    · exact .inr ⟨values _ ‹_› ‹_› ‹_›, e⟩
  case mbc3 =>
    rw [Bool.and_eq_true] at e
    rw [selectionOf, if_pos ⟨hv, e.1⟩] at hr
    have h1 := congrArg Rtc.active hr
    have h2 := congrArg Rtc.index hr
    simp only at h1 h2
    obtain ⟨x, hx⟩ := Option.isSome_iff_exists.mp e.2
    rw [hx] at h2
    exact .inr ⟨rfl, e.1, by rw [h1, e.2], by rw [hx, h2]; rfl⟩
  all_goals simp at e

end Sys2Proof.Machine
end

