-- ==== Sys2Proof/Laws/Decode.lean ====
section
/-! SUPPORT. Everything decoding can give, said once: what holds of each outcome under the conditions that lead to it holds
of what is decoded. -/

namespace Sys2Proof

/-- The four values of a two-bit selector. -/
theorem pick4_ind (P : Instr → Prop) (k : BitVec 2) (i0 i1 i2 i3 : Instr) (h0 : k = 0#2 → P i0) (h1 : k = 1#2 → P i1)
    (h2 : k = 2#2 → P i2) (h3 : k = 3#2 → P i3) : P (pick4 k i0 i1 i2 i3) := by
  have values : ∀ k : BitVec 2, k = 0#2 ∨ k = 1#2 ∨ k = 2#2 ∨ k = 3#2 := by decide
  unfold pick4
  rcases values k with h | h | h | h
  · subst h; exact h0 rfl
  · subst h; exact h1 rfl
  · subst h; exact h2 rfl
  · subst h; exact h3 rfl

/-- The routing of spec/30_encoding.md R122. -/
theorem decode_ind (P : Instr → Prop) (m : DecodeMode) (t : Word)
    (ext8000 : (tAddr t).extractLsb' 13 3 = 0b100#3 → P (.ext8000 (tRw t) ((tAddr t).extractLsb' 0 13) (extData t)))
    (extC000 : (tAddr t).extractLsb' 14 2 = 0b11#2 → P (.extC000 (tRw t) ((tAddr t).extractLsb' 0 14) (extData t)))
    (wrXram : (tAddr t).extractLsb' 13 3 = 0b101#3 → tRw t = true → P (decodeWrXram m (tAddr t) (tData t)))
    (rdXram : (tAddr t).extractLsb' 13 3 = 0b101#3 → tRw t = false → P (decodeRdXram m (tAddr t)))
    (control : (tAddr t).getLsbD 15 = false → tRw t = true → P (decodeControl m.variant (tAddr t) (tData t)))
    (romx : (tAddr t).extractLsb' 14 2 = 0b01#2 → tRw t = false → P (.rdRomx ((tAddr t).extractLsb' 0 14)))
    (rom0 : (tAddr t).extractLsb' 14 2 = 0b00#2 → tRw t = false → P (.rdRom0 ((tAddr t).extractLsb' 0 14))) :
    P (decode m t) := by
  have bits : ∀ x : BitVec 3, x.extractLsb' 1 2 ≠ 3#2 → x ≠ 4#3 → x ≠ 5#3 → x.getLsbD 2 = false := by decide
  have bits2 : ∀ x : BitVec 2, x.getLsbD 1 = false →
      (x.getLsbD 0 = true → x = 1#2) ∧ (x.getLsbD 0 = false → x = 0#2) := by decide
  have e1 : ((tAddr t).extractLsb' 13 3).extractLsb' 1 2 = (tAddr t).extractLsb' 14 2 := by
    apply BitVec.eq_of_getLsbD_eq
    intro i hi
    have h1 : 1 + i < 3 := by omega
    have h2 : 13 + (1 + i) = 14 + i := by omega
    simp only [BitVec.getLsbD_extractLsb', h1, h2, hi, decide_true, Bool.true_and]
  have e2 : ((tAddr t).extractLsb' 13 3).getLsbD 2 = (tAddr t).getLsbD 15 := by
    simp [BitVec.getLsbD_extractLsb', -BitVec.getLsbD_eq_getElem]
  have e3 : ((tAddr t).extractLsb' 14 2).getLsbD 1 = (tAddr t).getLsbD 15 := by
    simp [BitVec.getLsbD_extractLsb', -BitVec.getLsbD_eq_getElem]
  have e4 : ((tAddr t).extractLsb' 14 2).getLsbD 0 = (tAddr t).getLsbD 14 := by
    simp [BitVec.getLsbD_extractLsb', -BitVec.getLsbD_eq_getElem]
  unfold decode
  by_cases c1 : (tAddr t).extractLsb' 13 3 = 0b100#3
  · rw [if_pos c1]; exact ext8000 c1
  rw [if_neg c1]
  by_cases c2 : (tAddr t).extractLsb' 14 2 = 0b11#2
  · rw [if_pos c2]; exact extC000 c2
  rw [if_neg c2]
  by_cases c3 : (tAddr t).extractLsb' 13 3 = 0b101#3
  · rw [if_pos c3]
    cases h : tRw t
    · simpa using rdXram c3 h
    · simpa using wrXram c3 h
  rw [if_neg c3]
  have low : (tAddr t).getLsbD 15 = false := by
    rw [← e2]
    exact bits _ (by rw [e1]; exact c2) c1 c3
  have low2 := bits2 ((tAddr t).extractLsb' 14 2) (by rw [e3]; exact low)
  rw [e4] at low2
  cases h : tRw t
  · rw [if_neg (by simp)]
    cases h14 : (tAddr t).getLsbD 14
    · rw [if_neg (by simp)]; exact rom0 (low2.2 h14) h
    · rw [if_pos rfl]; exact romx (low2.1 h14) h
  · rw [if_pos rfl]; exact control low h

/-- A read of the RAM window (spec/30_encoding.md R133). -/
theorem decodeRdXram_ind (P : Instr → Prop) (m : DecodeMode) (a : Addr)
    (rtc : m.readsRtc = true → P (decodeRtcRd m.reg))
    (mr : m.readsTx 0#2 = true → P (decodeTxRdMr (low2 a)))
    (clock : m.readsTx 3#2 = true → P (decodeTxRdClock (low2 a)))
    (ram : m.readsRtc = false → m.readsTx 0#2 = false → m.readsTx 3#2 = false → P (.rdXram (a.extractLsb' 0 13))) :
    P (decodeRdXram m a) := by
  unfold decodeRdXram
  cases h1 : m.readsRtc
  · cases h2 : m.readsTx 0#2
    · cases h3 : m.readsTx 3#2
      · simpa using ram h1 h2 h3
      · simpa using clock h3
    · simpa using mr h2
  · simpa using rtc h1

/-- A write of the RAM window (spec/30_encoding.md R133). -/
theorem decodeWrXram_ind (P : Instr → Prop) (m : DecodeMode) (a : Addr) (d : Byte)
    (rtc : m.writesRtc = true → P (decodeRtcWr m.reg d))
    (clock : m.writesTx = true → P (decodeTxWr (low2 a) d))
    (ram : m.writesRtc = false → m.writesTx = false → P (.wrXram (a.extractLsb' 0 13) d)) : P (decodeWrXram m a d) := by
  unfold decodeWrXram
  cases h1 : m.writesRtc
  · cases h2 : m.writesTx
    · simpa using ram h1 h2
    · simpa using clock h2
  · simpa using rtc h1

/-- The MBC2 selector `addr & 0x6100` reads bits 14, 13 and 8. -/
theorem mbc2_selector (a : Addr) :
    a &&& 0x6100#16 = (0#1 ++ a.extractLsb' 13 2 ++ 0#4 ++ a.extractLsb' 8 1 ++ 0#8 : BitVec 16) := by
  apply BitVec.eq_of_toNat_eq
  have key : a.toNat &&& 0x6100 = a.toNat / 8192 % 4 * 8192 + a.toNat / 256 % 2 * 256 := by
    have split : (0x6100 : Nat) = 3 * 8192 ||| 1 * 256 := by decide
    have f1 := nat_and_field a.toNat 13 2
    have f2 := nat_and_field a.toNat 8 1
    have o := nat_or_parts (a.toNat / 8192 % 4) (a.toNat / 256 % 2 * 256) 13 (by norm_num; omega)
    rw [split, Nat.and_or_distrib_left]
    norm_num at *
    rw [f1, f2, o]
  rw [BitVec.toNat_and]
  simp only [BitVec.toNat_append, BitVec.extractLsb'_toNat, BitVec.toNat_ofNat, Nat.shiftRight_eq_div_pow, Nat.shiftLeft_eq]
  norm_num
  rw [key]
  have o1 := Nat.two_pow_add_eq_or_of_lt (i := 1) (b := a.toNat / 256 % 2) (by norm_num; omega)
    (a.toNat / 8192 % 4 * 16)
  norm_num at o1
  rw [Nat.mul_comm _ 2, ← o1]
  omega

end Sys2Proof
end

