-- ==== Sys2Proof/Laws/Exec.lean ====
section
/-! SUPPORT. What each operation leaves, as one record update: the aim functions first, then one lemma per instruction, then
what no transaction changes. -/

namespace Sys2Proof.Machine

/-! ## Aim functions -/

theorem aimRamBank0_eq (s : State) :
    aimRamBank0 s = { s with win := { s.win with
      ram := effRam s.cfg 0#8, re := s.mapper.enableRam, we := s.mapper.enableRam, rtcEn := false } } := rfl

theorem aimRamBanked_eq (s : State) :
    aimRamBanked s = { s with win := { s.win with
      ram := effRam s.cfg s.mapper.rambank, re := s.mapper.enableRam, we := s.mapper.enableRam, rtcEn := false } } := rfl

theorem aimRomMasked_eq (s : State) :
    aimRomMasked s = { s with win := { s.win with rom0 := 0#16, rom := maskRom s.cfg s.mapper.rombank } } := rfl

theorem aimRomMbc1_eq (s : State) :
    aimRomMbc1 s = { s with win := { s.win with
      rom0 := 0#16, rom := maskRom s.cfg (adjusted s.mapper.rombank) } } := rfl

theorem aimRomM64_eq (s : State) :
    aimRomM64 s = { s with win := { s.win with
      rom0 := if s.mapper.ramBankMode then toMulti64 s.mapper.rombank &&& 0x30#16 else 0#16
      rom := if s.mapper.ramBankMode then adjusted (toMulti64 s.mapper.rombank)
        else maskRom s.cfg (adjusted s.mapper.rombank) } } := by
  unfold aimRomM64
  cases s.mapper.ramBankMode <;> rfl

theorem aimRamM64_eq (s : State) :
    aimRamM64 s = { s with win := { s.win with
      ram := 0#8, re := s.mapper.enableRam, we := s.mapper.enableRam, rtcEn := false } } := rfl

theorem aimRomMbc3_eq (s : State) :
    aimRomMbc3 s = { s with win := { s.win with
      rom0 := 0#16, rom := maskRom s.cfg (zeroToOne s.mapper.rombank) } } := rfl

theorem aimRamMbc3_eq (s : State) :
    aimRamMbc3 s = { s with
      win := { s.win with
        ram := effRam s.cfg s.mapper.rambank, re := s.mapper.enableRam, we := s.mapper.enableRam
        rtcEn := s.cfg.rtcWired && (rtcRegOf s.mapper.rambank).isSome }
      rtc := { s.rtc with
        active := if s.cfg.rtcWired then (rtcRegOf s.mapper.rambank).isSome else s.rtc.active
        index := if s.cfg.rtcWired then (rtcRegOf s.mapper.rambank).getD .s else s.rtc.index } } := by
  unfold aimRamMbc3
  cases s.cfg.rtcWired <;> rfl

theorem aimRomHuc1_eq (s : State) :
    aimRomHuc1 s = { s with win := { s.win with rom0 := 0#16, rom := maskRom s.cfg (huc1RomBank s.mapper) } } := rfl

theorem aimRamHuc1_eq (s : State) :
    aimRamHuc1 s = { s with win := { s.win with
      ram := if s.mapper.ramBankMode then effRam s.cfg s.mapper.rambank else 0#8
      re := true, we := s.mapper.enableRam, rtcEn := false } } := rfl

theorem aimRamTpp1_eq (s : State) :
    aimRamTpp1 s = { s with win := { s.win with
      ram := effRam s.cfg s.mapper.rambank
      re := (tpp1Windows s.cfg s.mapper).re, we := (tpp1Windows s.cfg s.mapper).we
      rtcEn := (tpp1Windows s.cfg s.mapper).rtcEn } } := by
  unfold aimRamTpp1 tpp1Windows
  by_cases h0 : s.mapper.mapmode = 0#2
  · simp only [h0, if_true]; rfl
  · by_cases h1 : s.mapper.mapmode = 1#2
    · simp only [h1, if_true]; rfl
    · by_cases h2 : s.mapper.mapmode = 2#2
      · simp only [h2, if_true]; rfl
      · simp only [h0, h1, h2, if_false]; rfl

/-! ## Clock operations -/

theorem complete_setRtc_countNow (r : Rtc) (s : State) :
    complete (setRtc r (countNow s)) = .next { s with rtc := r, nowCalls := s.nowCalls + 1, answer := .done } := rfl

theorem complete_setTx_countNowIfRunning (x : Tx) (s : State) :
    complete (setTx x (countNowIfRunning s)) = .next { s with
      tx := x, nowCalls := if s.tx.running then s.nowCalls + 1 else s.nowCalls, answer := .done } := by
  unfold countNowIfRunning
  split <;> rfl

/-! ## Instructions -/

theorem exec_rtcRdS (s : State) :
    exec .rtcRdS s = .next { s with answer := .byte s.rtc.s } := rfl

theorem exec_rtcRdM (s : State) :
    exec .rtcRdM s = .next { s with answer := .byte s.rtc.m } := rfl

theorem exec_rtcRdH (s : State) :
    exec .rtcRdH s = .next { s with answer := .byte s.rtc.h } := rfl

theorem exec_rtcRdDl (s : State) :
    exec .rtcRdDl s = .next { s with answer := .byte s.rtc.dl } := rfl

theorem exec_rtcRdDh (s : State) :
    exec .rtcRdDh s = .next { s with answer := .byte s.rtc.dh } := rfl

theorem exec_txRdMr0 (s : State) :
    exec .txRdMr0 s = .next { s with answer := .byte (s.mapper.rombank.extractLsb' 0 8) } := rfl

theorem exec_txRdMr1 (s : State) :
    exec .txRdMr1 s = .next { s with answer := .byte (s.mapper.rombank.extractLsb' 8 8) } := rfl

theorem exec_txRdMr2 (s : State) :
    exec .txRdMr2 s = .next { s with answer := .byte s.mapper.rambank } := rfl

theorem exec_txRdMr3 (s : State) :
    exec .txRdMr3 s = .next { s with answer := .byte (txStatus s.tx) } := rfl

theorem exec_txRdW (s : State) :
    exec .txRdW s = .next { s with answer := .byte s.tx.w } := rfl

theorem exec_txRdH (s : State) :
    exec .txRdH s = .next { s with answer := .byte s.tx.h } := rfl

theorem exec_txRdM (s : State) :
    exec .txRdM s = .next { s with answer := .byte s.tx.m } := rfl

theorem exec_txRdS (s : State) :
    exec .txRdS s = .next { s with answer := .byte s.tx.s } := rfl

theorem exec_ext8000 (write : Bool) (off : BitVec 13) (data : Byte) (s : State) :
    exec (.ext8000 write off data) s = .next { s with answer := .external } := rfl

theorem exec_extC000 (write : Bool) (off : BitVec 14) (data : Byte) (s : State) :
    exec (.extC000 write off data) s = .next { s with answer := .external } := rfl

theorem exec_plainIgnR1 (data : Byte) (s : State) :
    exec (.plainIgnR1 data) s = .next { s with answer := .done } := rfl

theorem exec_plainIgnR23 (data : Byte) (s : State) :
    exec (.plainIgnR23 data) s = .next { s with answer := .done } := rfl

theorem exec_mbc2Ign0100 (data : Byte) (s : State) :
    exec (.mbc2Ign0100 data) s = .next { s with answer := .done } := rfl

theorem exec_mbc2Ign2000 (data : Byte) (s : State) :
    exec (.mbc2Ign2000 data) s = .next { s with answer := .done } := rfl

theorem exec_mbc2IgnHi (data : Byte) (s : State) :
    exec (.mbc2IgnHi data) s = .next { s with answer := .done } := rfl

theorem exec_mbc5Ign (data : Byte) (s : State) :
    exec (.mbc5Ign data) s = .next { s with answer := .done } := rfl

theorem exec_tpp1Ign (data : Byte) (s : State) :
    exec (.tpp1Ign data) s = .next { s with answer := .done } := rfl

theorem exec_tpp1Mr3ign (code : Byte) (s : State) :
    exec (.tpp1Mr3ign code) s = .next { s with answer := .done } := rfl

theorem exec_plainRamen (data : Byte) (s : State) :
    exec (.plainRamen data) s = .next { s with
      mapper := { s.mapper with enableRam := ramEnableValue data }
      win := { s.win with ram := effRam s.cfg 0#8, re := ramEnableValue data, we := ramEnableValue data, rtcEn := false }
      answer := .done } := rfl

theorem exec_mbc2Ramen (data : Byte) (s : State) :
    exec (.mbc2Ramen data) s = .next { s with
      mapper := { s.mapper with enableRam := ramEnableValue data }
      win := { s.win with ram := effRam s.cfg 0#8, re := ramEnableValue data, we := ramEnableValue data, rtcEn := false }
      answer := .done } := rfl

theorem exec_m64Ramen (data : Byte) (s : State) :
    exec (.m64Ramen data) s = .next { s with
      mapper := { s.mapper with enableRam := ramEnableValue data }
      win := { s.win with ram := 0#8, re := ramEnableValue data, we := ramEnableValue data, rtcEn := false }
      answer := .done } := rfl

theorem exec_mbc1Ramen (data : Byte) (s : State) :
    exec (.mbc1Ramen data) s = .next { s with
      mapper := { s.mapper with enableRam := ramEnableValue data }
      win := { s.win with ram := effRam s.cfg s.mapper.rambank, re := ramEnableValue data, we := ramEnableValue data, rtcEn := false }
      answer := .done } := rfl

theorem exec_mbc5Ramen (data : Byte) (s : State) :
    exec (.mbc5Ramen data) s = .next { s with
      mapper := { s.mapper with enableRam := ramEnableValue data }
      win := { s.win with ram := effRam s.cfg s.mapper.rambank, re := ramEnableValue data, we := ramEnableValue data, rtcEn := false }
      answer := .done } := rfl

theorem exec_huc1Ramen (data : Byte) (s : State) :
    exec (.huc1Ramen data) s = .next { s with
      mapper := { s.mapper with enableRam := ramEnableValue data }
      win := { s.win with
        ram := if s.mapper.ramBankMode then effRam s.cfg s.mapper.rambank else 0#8
        re := true, we := ramEnableValue data, rtcEn := false }
      answer := .done } := rfl

theorem exec_mbc1Bank1 (data : Byte) (s : State) :
    exec (.mbc1Bank1 data) s = .next { s with
      mapper := { s.mapper with
        rombank := if s.mapper.ramBankMode then bankLow5 data else withBankLow5 s.mapper.rombank data }
      win := { s.win with
        rom0 := 0#16
        rom := maskRom s.cfg
          (adjusted (if s.mapper.ramBankMode then bankLow5 data else withBankLow5 s.mapper.rombank data)) }
      answer := .done } := rfl

theorem exec_mbc1Bank2_rom (data : Byte) (s : State) (h : s.mapper.ramBankMode = false) :
    exec (.mbc1Bank2 data) s = .next { s with
      mapper := { s.mapper with rombank := withBankHigh2 s.mapper.rombank data }
      win := { s.win with
        rom0 := 0#16, rom := maskRom s.cfg (adjusted (withBankHigh2 s.mapper.rombank data)) }
      answer := .done } := by
  exact if_neg (by simp [h])

theorem exec_mbc1Bank2_ram (data : Byte) (s : State) (h : s.mapper.ramBankMode = true) :
    exec (.mbc1Bank2 data) s = .next { s with
      mapper := { s.mapper with rambank := ramBankLow2 data }
      win := { s.win with
        ram := effRam s.cfg (ramBankLow2 data), re := s.mapper.enableRam, we := s.mapper.enableRam, rtcEn := false }
      answer := .done } := by
  exact if_pos h

theorem exec_mbc1Mode (data : Byte) (s : State) :
    exec (.mbc1Mode data) s = .next { s with
      mapper := { s.mapper with ramBankMode := dataBit0 data }, answer := .done } := rfl

theorem exec_m64Bank1 (data : Byte) (s : State) :
    exec (.m64Bank1 data) s = .next { s with
      mapper := { s.mapper with rombank := withBankLow5 s.mapper.rombank data }
      win := { s.win with
        rom0 := if s.mapper.ramBankMode then toMulti64 (withBankLow5 s.mapper.rombank data) &&& 0x30#16 else 0#16
        rom := if s.mapper.ramBankMode then adjusted (toMulti64 (withBankLow5 s.mapper.rombank data))
          else maskRom s.cfg (adjusted (withBankLow5 s.mapper.rombank data)) }
      answer := .done } := by
  simp only [exec, execM64Bank1, aimRomM64_eq]
  rfl

theorem exec_m64Bank2 (data : Byte) (s : State) :
    exec (.m64Bank2 data) s = .next { s with
      mapper := { s.mapper with rombank := withBankHigh2 s.mapper.rombank data }
      win := { s.win with
        rom0 := if s.mapper.ramBankMode then toMulti64 (withBankHigh2 s.mapper.rombank data) &&& 0x30#16 else 0#16
        rom := if s.mapper.ramBankMode then adjusted (toMulti64 (withBankHigh2 s.mapper.rombank data))
          else maskRom s.cfg (adjusted (withBankHigh2 s.mapper.rombank data)) }
      answer := .done } := by
  simp only [exec, execM64Bank2, aimRomM64_eq]
  rfl

theorem exec_m64Mode (data : Byte) (s : State) :
    exec (.m64Mode data) s = .next { s with
      mapper := { s.mapper with ramBankMode := dataBit0 data }
      win := { s.win with
        rom0 := if dataBit0 data then toMulti64 s.mapper.rombank &&& 0x30#16 else 0#16
        rom := if dataBit0 data then adjusted (toMulti64 s.mapper.rombank)
          else maskRom s.cfg (adjusted s.mapper.rombank) }
      answer := .done } := by
  simp only [exec, execM64Mode, aimRomM64_eq]
  rfl

theorem exec_mbc2Romb (data : Byte) (s : State) :
    exec (.mbc2Romb data) s = .next { s with
      mapper := { s.mapper with rombank := bankLow4 data }
      win := { s.win with rom0 := 0#16, rom := maskRom s.cfg (bankLow4 data) }
      answer := .done } := rfl

theorem exec_mbc3Romb (data : Byte) (s : State) :
    exec (.mbc3Romb data) s = .next { s with
      mapper := { s.mapper with rombank := bankLow7 data }
      win := { s.win with rom0 := 0#16, rom := maskRom s.cfg (zeroToOne (bankLow7 data)) }
      answer := .done } := rfl

theorem exec_mbc3Ramen (data : Byte) (s : State) :
    exec (.mbc3Ramen data) s = .next { s with
      mapper := { s.mapper with enableRam := ramEnableValue data }
      win := { s.win with
        ram := effRam s.cfg s.mapper.rambank, re := ramEnableValue data, we := ramEnableValue data
        rtcEn := s.cfg.rtcWired && (rtcRegOf s.mapper.rambank).isSome }
      rtc := { s.rtc with
        active := if s.cfg.rtcWired then (rtcRegOf s.mapper.rambank).isSome else s.rtc.active
        index := if s.cfg.rtcWired then (rtcRegOf s.mapper.rambank).getD .s else s.rtc.index }
      answer := .done } := by
  simp only [exec, execMbc3Ramen, aimRamMbc3_eq]
  rfl

theorem exec_mbc3Ramb (data : Byte) (s : State) :
    exec (.mbc3Ramb data) s = .next { s with
      mapper := { s.mapper with rambank := data }
      win := { s.win with
        ram := effRam s.cfg data, re := s.mapper.enableRam, we := s.mapper.enableRam
        rtcEn := s.cfg.rtcWired && (rtcRegOf data).isSome }
      rtc := { s.rtc with
        active := if s.cfg.rtcWired then (rtcRegOf data).isSome else s.rtc.active
        index := if s.cfg.rtcWired then (rtcRegOf data).getD .s else s.rtc.index }
      answer := .done } := by
  simp only [exec, execMbc3Ramb, aimRamMbc3_eq]
  rfl

theorem exec_mbc3Latch_unwired (data : Byte) (s : State) (h : s.cfg.rtcWired = false) :
    exec (.mbc3Latch data) s = .next { s with answer := .done } := by
  simp only [exec, execMbc3Latch, h]
  rfl

theorem exec_mbc3Latch_edge (data : Byte) (s : State) (wired : s.cfg.rtcWired = true) (before : s.rtc.lastLatch = false)
    (now1 : dataBit0 data = true) :
    exec (.mbc3Latch data) s = .next { s with
      rtc := { rtcLatchAt (now s) s.rtc with lastLatch := true }
      nowCalls := if dhHalt s.rtc.dh then s.nowCalls else s.nowCalls + 1, answer := .done } := by
  have e : exec (.mbc3Latch data) s = complete (rtcLatch data s) := if_pos wired
  have e2 : rtcLatch data s = setLastLatch data (rtcDoLatch s) := by
    rw [rtcLatch, before, now1]
    rfl
  rw [e, e2, setLastLatch, now1, rtcDoLatch]
  generalize rtcLatchAt (now s) s.rtc = r
  split <;> rfl

theorem exec_mbc3Latch_no_edge (data : Byte) (s : State) (wired : s.cfg.rtcWired = true)
    (h : s.rtc.lastLatch = true ∨ dataBit0 data = false) :
    exec (.mbc3Latch data) s = .next { s with
      rtc := { s.rtc with lastLatch := dataBit0 data }, answer := .done } := by
  simp only [exec, execMbc3Latch, wired, rtcLatch, setLastLatch]
  rcases h with h | h
  · simp only [h]; rfl
  · simp only [h, Bool.and_false]; rfl

theorem exec_huc1Romb (data : Byte) (s : State) :
    exec (.huc1Romb data) s = .next { s with
      mapper := { s.mapper with rombank := bankLow6 data }
      win := { s.win with
        rom0 := 0#16, rom := maskRom s.cfg (huc1RomBank { s.mapper with rombank := bankLow6 data }) }
      answer := .done } := rfl

theorem exec_huc1Ramb_rom (data : Byte) (s : State) (h : s.mapper.ramBankMode = false) :
    exec (.huc1Ramb data) s = .next { s with
      mapper := { s.mapper with rambank := ramBankLow2 data }
      win := { s.win with
        rom0 := 0#16, rom := maskRom s.cfg (huc1RomBank { s.mapper with rambank := ramBankLow2 data }) }
      answer := .done } := by
  exact if_neg (by simp [h])

theorem exec_huc1Ramb_ram (data : Byte) (s : State) (h : s.mapper.ramBankMode = true) :
    exec (.huc1Ramb data) s = .next { s with
      mapper := { s.mapper with rambank := ramBankLow2 data }
      win := { s.win with
        ram := effRam s.cfg (ramBankLow2 data), re := true, we := s.mapper.enableRam, rtcEn := false }
      answer := .done } := by
  have e : exec (.huc1Ramb data) s = complete (aimRamHuc1 (setMRambank (ramBankLow2 data) s)) := if_pos h
  rw [e, aimRamHuc1_eq, setMRambank_mapper, if_pos h]
  rfl

theorem exec_huc1Mode (data : Byte) (s : State) :
    exec (.huc1Mode data) s = .next { s with
      mapper := { s.mapper with ramBankMode := dataBit0 data }
      win := { s.win with
        rom0 := 0#16, rom := maskRom s.cfg (huc1RomBank { s.mapper with ramBankMode := dataBit0 data })
        ram := if dataBit0 data then effRam s.cfg s.mapper.rambank else 0#8
        re := true, we := s.mapper.enableRam, rtcEn := false }
      answer := .done } := rfl

theorem exec_mbc5Romb0 (data : Byte) (s : State) :
    exec (.mbc5Romb0 data) s = .next { s with
      mapper := { s.mapper with rombank := (s.mapper.rombank &&& 0x100#16) ||| bankByte data }
      win := { s.win with rom0 := 0#16, rom := maskRom s.cfg ((s.mapper.rombank &&& 0x100#16) ||| bankByte data) }
      answer := .done } := rfl

theorem exec_mbc5Romb1 (data : Byte) (s : State) :
    exec (.mbc5Romb1 data) s = .next { s with
      mapper := { s.mapper with rombank := bankBit8 data ||| (s.mapper.rombank &&& 0xFF#16) }
      win := { s.win with rom0 := 0#16, rom := maskRom s.cfg (bankBit8 data ||| (s.mapper.rombank &&& 0xFF#16)) }
      answer := .done } := rfl

theorem exec_mbc5Ramb (data : Byte) (s : State) :
    exec (.mbc5Ramb data) s = .next { s with
      mapper := { s.mapper with rambank := ramBankLow4 data }
      win := { s.win with
        ram := effRam s.cfg (ramBankLow4 data), re := s.mapper.enableRam, we := s.mapper.enableRam, rtcEn := false }
      answer := .done } := rfl

theorem exec_tpp1Mr0 (data : Byte) (s : State) :
    exec (.tpp1Mr0 data) s = .next { s with
      mapper := { s.mapper with rombank := (s.mapper.rombank &&& 0xFF00#16) ||| bankByte data }
      win := { s.win with rom0 := 0#16, rom := maskRom s.cfg ((s.mapper.rombank &&& 0xFF00#16) ||| bankByte data) }
      answer := .done } := rfl

theorem exec_tpp1Mr1 (data : Byte) (s : State) :
    exec (.tpp1Mr1 data) s = .next { s with
      mapper := { s.mapper with rombank := bankHighByte data ||| (s.mapper.rombank &&& 0x00FF#16) }
      win := { s.win with rom0 := 0#16, rom := maskRom s.cfg (bankHighByte data ||| (s.mapper.rombank &&& 0x00FF#16)) }
      answer := .done } := rfl

theorem exec_tpp1Mr2 (data : Byte) (s : State) :
    exec (.tpp1Mr2 data) s = .next { s with
      mapper := { s.mapper with rambank := data }
      win := { s.win with
        ram := effRam s.cfg data
        re := (tpp1Windows s.cfg { s.mapper with rambank := data }).re, we := (tpp1Windows s.cfg { s.mapper with rambank := data }).we
        rtcEn := (tpp1Windows s.cfg { s.mapper with rambank := data }).rtcEn }
      answer := .done } := by
  simp only [exec, execTpp1Mr2, aimRamTpp1_eq]
  rfl

theorem exec_tpp1Map0 (s : State) :
    exec .tpp1Map0 s = .next { s with
      mapper := { s.mapper with mapmode := 0#2 }, tx := { s.tx with curmap := 0#2 }
      win := { s.win with
        ram := effRam s.cfg s.mapper.rambank, re := true, we := false
        rtcEn := true }
      answer := .done } := rfl

theorem exec_tpp1Map1 (s : State) :
    exec .tpp1Map1 s = .next { s with
      mapper := { s.mapper with mapmode := 1#2 }, tx := { s.tx with curmap := 1#2 }
      win := { s.win with
        ram := effRam s.cfg s.mapper.rambank, re := true, we := false
        rtcEn := false }
      answer := .done } := rfl

theorem exec_tpp1Map2 (s : State) :
    exec .tpp1Map2 s = .next { s with
      mapper := { s.mapper with mapmode := 2#2 }, tx := { s.tx with curmap := 2#2 }
      win := { s.win with
        ram := effRam s.cfg s.mapper.rambank, re := true, we := true
        rtcEn := false }
      answer := .done } := rfl

theorem exec_tpp1Map3 (s : State) :
    exec .tpp1Map3 s = .next { s with
      mapper := { s.mapper with mapmode := 3#2 }, tx := { s.tx with curmap := 3#2 }
      win := { s.win with
        ram := effRam s.cfg s.mapper.rambank, re := s.cfg.features.getLsbD 2, we := s.cfg.features.getLsbD 2
        rtcEn := s.cfg.features.getLsbD 2 }
      answer := .done } := rfl

theorem exec_tpp1Latch (s : State) :
    exec .tpp1Latch s = .next { s with
      tx := txLatchAt (now s) s.tx, nowCalls := if s.tx.running then s.nowCalls + 1 else s.nowCalls, answer := .done } := by
  show complete (setTx (txLatchAt (now s) s.tx) (countNowIfRunning s)) = _
  exact complete_setTx_countNowIfRunning _ s

theorem exec_tpp1Settime (s : State) :
    exec .tpp1Settime s = .next { s with
      tx := { s.tx with baseTime := txRef (now s) s.tx - seconds (txSeconds s.tx) }
      nowCalls := if s.tx.running then s.nowCalls + 1 else s.nowCalls, answer := .done } := by
  have e : exec .tpp1Settime s = complete (txSettime s) := rfl
  rw [e, txSettime]
  exact complete_setTx_countNowIfRunning _ s

theorem exec_tpp1Clrovf (s : State) :
    exec .tpp1Clrovf s = .next { s with tx := { s.tx with overflow := false }, answer := .done } := rfl

theorem exec_tpp1Rumble (level : BitVec 2) (s : State) :
    exec (.tpp1Rumble level) s = .next { s with tx := { s.tx with rumble := level }, answer := .done } := rfl

theorem exec_tpp1Halt_acts (s : State) (h : s.tx.running = true) :
    exec .tpp1Halt s = .next { s with
      tx := { s.tx with haltTime := now s, running := false }, nowCalls := s.nowCalls + 1
      answer := .done } := by
  simp only [exec, execTpp1Halt, txHalt, h]
  rfl

theorem exec_tpp1Halt_ignored (s : State) (h : s.tx.running = false) :
    exec .tpp1Halt s = .next { s with answer := .done } := by
  simp only [exec, execTpp1Halt, txHalt, h]
  rfl

theorem exec_tpp1Resume_acts (s : State) (h : s.tx.running = false) :
    exec .tpp1Resume s = .next { s with
      tx := { s.tx with baseTime := s.tx.baseTime + (now s - s.tx.haltTime), running := true }, nowCalls := s.nowCalls + 1
      answer := .done } := by
  simp only [exec, execTpp1Resume, txResume, h]
  rfl

theorem exec_tpp1Resume_ignored (s : State) (h : s.tx.running = true) :
    exec .tpp1Resume s = .next { s with answer := .done } := by
  simp only [exec, execTpp1Resume, txResume, h]
  rfl

theorem exec_txWrW (data : Byte) (s : State) :
    exec (.txWrW data) s = .next { s with
      tx := { s.tx with w := if s.tx.curmap = 3#2 then data else s.tx.w }, answer := .done } := by
  by_cases h : s.tx.curmap = 3#2
  · have e : txWrite 0#2 data s = txWriteW data s := if_pos h
    show complete (txWrite 0#2 data s) = _
    rw [e, if_pos h]
    rfl
  · have e : txWrite 0#2 data s = s := if_neg h
    show complete (txWrite 0#2 data s) = _
    rw [e, if_neg h]
    rfl

theorem exec_txWrH (data : Byte) (s : State) :
    exec (.txWrH data) s = .next { s with
      tx := { s.tx with h := if s.tx.curmap = 3#2 then data else s.tx.h }, answer := .done } := by
  by_cases h : s.tx.curmap = 3#2
  · have e : txWrite 1#2 data s = txWriteH data s := if_pos h
    show complete (txWrite 1#2 data s) = _
    rw [e, if_pos h]
    rfl
  · have e : txWrite 1#2 data s = s := if_neg h
    show complete (txWrite 1#2 data s) = _
    rw [e, if_neg h]
    rfl

theorem exec_txWrM (data : Byte) (s : State) :
    exec (.txWrM data) s = .next { s with
      tx := { s.tx with m := if s.tx.curmap = 3#2 then data else s.tx.m }, answer := .done } := by
  by_cases h : s.tx.curmap = 3#2
  · have e : txWrite 2#2 data s = txWriteM data s := if_pos h
    show complete (txWrite 2#2 data s) = _
    rw [e, if_pos h]
    rfl
  · have e : txWrite 2#2 data s = s := if_neg h
    show complete (txWrite 2#2 data s) = _
    rw [e, if_neg h]
    rfl

theorem exec_txWrS (data : Byte) (s : State) :
    exec (.txWrS data) s = .next { s with
      tx := { s.tx with s := if s.tx.curmap = 3#2 then data else s.tx.s }, answer := .done } := by
  by_cases h : s.tx.curmap = 3#2
  · have e : txWrite 3#2 data s = txWriteS data s := if_pos h
    show complete (txWrite 3#2 data s) = _
    rw [e, if_pos h]
    rfl
  · have e : txWrite 3#2 data s = s := if_neg h
    show complete (txWrite 3#2 data s) = _
    rw [e, if_neg h]
    rfl

theorem exec_rtcWrS (data : Byte) (s : State) :
    exec (.rtcWrS data) s = .next { s with
      rtc := { s.rtc with baseTime := rebase s.rtc.baseTime (rtcSeconds s % 60) data.toNat, s := data }
      nowCalls := s.nowCalls + 1, answer := .done } := by
  have e : exec (.rtcWrS data) s = complete (rtcWriteS data s) := rfl
  rw [e, rtcWriteS]
  exact complete_setRtc_countNow _ s

theorem exec_rtcWrM (data : Byte) (s : State) :
    exec (.rtcWrM data) s = .next { s with
      rtc := { s.rtc with baseTime := rebase s.rtc.baseTime (rtcSeconds s / 60 % 60 * 60) (data.toNat * 60), m := data }
      nowCalls := s.nowCalls + 1, answer := .done } := by
  have e : exec (.rtcWrM data) s = complete (rtcWriteM data s) := rfl
  rw [e, rtcWriteM]
  exact complete_setRtc_countNow _ s

theorem exec_rtcWrH (data : Byte) (s : State) :
    exec (.rtcWrH data) s = .next { s with
      rtc := { s.rtc with baseTime := rebase s.rtc.baseTime (rtcSeconds s / 3600 % 24 * 3600) (data.toNat * 3600), h := data }
      nowCalls := s.nowCalls + 1, answer := .done } := by
  have e : exec (.rtcWrH data) s = complete (rtcWriteH data s) := rfl
  rw [e, rtcWriteH]
  exact complete_setRtc_countNow _ s

theorem exec_rtcWrDl (data : Byte) (s : State) :
    exec (.rtcWrDl data) s = .next { s with
      rtc := { s.rtc with baseTime := rebase s.rtc.baseTime (rtcSeconds s / 86400 % 256 * 86400) (data.toNat * 86400), dl := data }
      nowCalls := s.nowCalls + 1, answer := .done } := by
  have e : exec (.rtcWrDl data) s = complete (rtcWriteDl data s) := rfl
  rw [e, rtcWriteDl]
  exact complete_setRtc_countNow _ s

theorem exec_rtcWrDh (data : Byte) (s : State) :
    exec (.rtcWrDh data) s = .next { s with
      rtc := { s.rtc with
        baseTime :=
          if dhHalt s.rtc.dh && !dhHalt data then rtcDayBit data s + (now s - s.rtc.haltTime) else rtcDayBit data s
        haltTime := if !dhHalt s.rtc.dh && dhHalt data then now s else s.rtc.haltTime
        dh := data }
      nowCalls := s.nowCalls + 1, answer := .done } := by
  have e : exec (.rtcWrDh data) s = complete (rtcWriteDh data s) := rfl
  rw [e, rtcWriteDh]
  exact complete_setRtc_countNow _ s

/-! ## What a write through the RAM window can do -/

/-- The row the clock path of a write runs. -/
def clockWriteRow (r : RtcReg) (data : Byte) : Instr :=
  match r with
  | .s => .rtcWrS data
  | .m => .rtcWrM data
  | .h => .rtcWrH data
  | .dl => .rtcWrDl data
  | .dh => .rtcWrDh data

/-- The row the TX path of a write runs. -/
def txWriteRow (k : BitVec 2) (data : Byte) : Instr :=
  if k = 0#2 then .txWrW data else if k = 1#2 then .txWrH data else if k = 2#2 then .txWrM data else .txWrS data

theorem exec_wrXram_closed (off : BitVec 13) (data : Byte) (s : State) (h : s.win.we = false) :
    exec (.wrXram off data) s = .next { s with answer := .done } := by
  simp only [exec, execWrXram, h]
  rfl

theorem exec_wrXram_tx (off : BitVec 13) (data : Byte) (s : State) (h : s.win.we = true) (clock : s.win.rtcEn = true)
    (tx : s.cfg.variant = .tpp1) : exec (.wrXram off data) s = exec (txWriteRow (offLow2 off) data) s := by
  have values : ∀ k : BitVec 2, k = 0#2 ∨ k = 1#2 ∨ k = 2#2 ∨ k = 3#2 := by decide
  simp only [exec, execWrXram, h, clock, writeClockPath, tx, if_true, Bool.not_true, Bool.false_eq_true, if_false]
  rcases values (offLow2 off) with e | e | e | e <;> rw [e] <;> rfl

theorem exec_wrXram_rtc (off : BitVec 13) (data : Byte) (s : State) (h : s.win.we = true) (clock : s.win.rtcEn = true)
    (rtc : s.cfg.variant ≠ .tpp1) : exec (.wrXram off data) s = exec (clockWriteRow s.rtc.index data) s := by
  simp only [exec, execWrXram, h, clock, writeClockPath, rtc, if_true, Bool.not_true, Bool.false_eq_true, if_false]
  unfold clockWriteRow rtcWrite
  cases s.rtc.index <;> rfl

theorem exec_wrXram_ram (off : BitVec 13) (data : Byte) (s : State) (h : s.win.we = true) (ram : s.win.rtcEn = false) :
    exec (.wrXram off data) s = writeRam off data s := by
  simp only [exec, execWrXram, h, ram]
  rfl

/-! ## What a read through the RAM window can do -/

/-- A RAM-window read that goes on answers a byte and changes nothing else. -/
theorem exec_rdXram_next {off : BitVec 13} {s t : State} (h : exec (.rdXram off) s = .next t) :
    ∃ v, t = { s with answer := .byte v } := by
  simp only [exec, execRdXram] at h
  split at h
  · injection h with h
    exact ⟨_, h.symm⟩
  · split at h
    · unfold readClockPath at h
      split at h
      · split at h
        · injection h with h
          exact ⟨_, h.symm⟩
        · exact ⟨_, readRam_next h⟩
      · injection h with h
        exact ⟨_, h.symm⟩
    · exact ⟨_, readRam_next h⟩

/-! ## What no transaction changes -/

/-- No bus transaction changes the configuration, the ROM image, whether a cartridge is loaded, the host clock's answer, the
count of free values or the requests that wait. -/
structure BusFrame (s t : State) : Prop where
  cfg : t.cfg = s.cfg
  rom : t.rom = s.rom
  live : t.live = s.live
  hostNow : t.hostNow = s.hostNow
  freeUses : t.freeUses = s.freeUses
  queue : t.queue = s.queue

/-- A transaction whose outcome is known. -/
theorem BusFrame.of_next {i : Instr} {s t u : State} (e : exec i s = .next u) (f : BusFrame s u) (h : exec i s = .next t) :
    BusFrame s t := by
  rw [e] at h
  injection h with h
  rwa [← h]

theorem exec_mbc3Latch_frame (data : Byte) (s t : State) (h : exec (.mbc3Latch data) s = .next t) : BusFrame s t := by
  cases hw : s.cfg.rtcWired
  · exact .of_next (exec_mbc3Latch_unwired data s hw) ⟨rfl, rfl, rfl, rfl, rfl, rfl⟩ h
  · cases hl : s.rtc.lastLatch
    · cases hd : dataBit0 data
      · exact .of_next (exec_mbc3Latch_no_edge data s hw (.inr hd)) ⟨rfl, rfl, rfl, rfl, rfl, rfl⟩ h
      · exact .of_next (exec_mbc3Latch_edge data s hw hl hd) ⟨rfl, rfl, rfl, rfl, rfl, rfl⟩ h
    · exact .of_next (exec_mbc3Latch_no_edge data s hw (.inl hl)) ⟨rfl, rfl, rfl, rfl, rfl, rfl⟩ h

/-- The TX path of a write stores one byte. -/
theorem exec_txWriteRow (k : BitVec 2) (data : Byte) (s : State) :
    ∃ x : Tx, exec (txWriteRow k data) s = .next { s with tx := x, answer := .done } ∧
      x = { s.tx with w := x.w, h := x.h, m := x.m, s := x.s } := by
  unfold txWriteRow
  split
  · exact ⟨_, exec_txWrW data s, rfl⟩
  · split
    · exact ⟨_, exec_txWrH data s, rfl⟩
    · split
      · exact ⟨_, exec_txWrM data s, rfl⟩
      · exact ⟨_, exec_txWrS data s, rfl⟩

/-- The clock path of a write replaces the MBC3 clock and invokes `now()` once. -/
theorem exec_clockWriteRow (r : RtcReg) (data : Byte) (s : State) :
    ∃ c : Rtc, exec (clockWriteRow r data) s =
        .next { s with rtc := c, nowCalls := s.nowCalls + 1, answer := .done } ∧
      c.active = s.rtc.active ∧ c.index = s.rtc.index ∧ c.lastLatch = s.rtc.lastLatch := by
  cases r
  · exact ⟨_, exec_rtcWrS data s, rfl, rfl, rfl⟩
  · exact ⟨_, exec_rtcWrM data s, rfl, rfl, rfl⟩
  · exact ⟨_, exec_rtcWrH data s, rfl, rfl, rfl⟩
  · exact ⟨_, exec_rtcWrDl data s, rfl, rfl, rfl⟩
  · exact ⟨_, exec_rtcWrDh data s, rfl, rfl, rfl⟩

/-- Everything a RAM-window write that goes on can do: nothing, one TX byte, one MBC3 clock register, one byte of RAM. -/
theorem exec_wrXram_next {off : BitVec 13} {data : Byte} {s t : State} (h : exec (.wrXram off data) s = .next t) :
    t = { s with answer := .done } ∨
    (s.win.we = true ∧ s.win.rtcEn = true ∧ s.cfg.variant = .tpp1 ∧
      ∃ x : Tx, t = { s with tx := x, answer := .done } ∧ x = { s.tx with w := x.w, h := x.h, m := x.m, s := x.s }) ∨
    (s.win.we = true ∧ s.win.rtcEn = true ∧ s.cfg.variant ≠ .tpp1 ∧
      ∃ c : Rtc, t = { s with rtc := c, nowCalls := s.nowCalls + 1, answer := .done } ∧
        c.active = s.rtc.active ∧ c.index = s.rtc.index ∧ c.lastLatch = s.rtc.lastLatch) ∨
    (ramIndex s.win.ram off < s.cfg.ramSize ∧
      t = { s with ram := Memory.write ramBlank s.ram (ramIndex s.win.ram off) data, answer := .done }) := by
  cases hw : s.win.we
  · rw [exec_wrXram_closed off data s hw] at h
    injection h with h
    exact .inl h.symm
  · cases hc : s.win.rtcEn
    · rw [exec_wrXram_ram off data s hw hc] at h
      rcases writeRam_next h with ⟨-, e⟩ | e
      · exact .inl e
      · exact .inr (.inr (.inr e))
    · by_cases hv : s.cfg.variant = .tpp1
      · obtain ⟨x, e, hx⟩ := exec_txWriteRow (offLow2 off) data s
        rw [exec_wrXram_tx off data s hw hc hv, e] at h
        injection h with h
        exact .inr (.inl ⟨rfl, rfl, hv, x, h.symm, hx⟩)
      · obtain ⟨c, e, hx⟩ := exec_clockWriteRow s.rtc.index data s
        rw [exec_wrXram_rtc off data s hw hc hv, e] at h
        injection h with h
        exact .inr (.inr (.inl ⟨rfl, rfl, hv, c, h.symm, hx⟩))

theorem exec_wrXram_frame (off : BitVec 13) (data : Byte) (s t : State) (h : exec (.wrXram off data) s = .next t) :
    BusFrame s t := by
  rcases exec_wrXram_next h with e | ⟨-, -, -, x, e, -⟩ | ⟨-, -, -, c, e, -⟩ | ⟨-, e⟩ <;> rw [e] <;>
    exact ⟨rfl, rfl, rfl, rfl, rfl, rfl⟩

/-- The frame every bus transaction keeps. -/
theorem exec_frame (i : Instr) (s t : State) (h : exec i s = .next t) : BusFrame s t := by
  cases i with
  | rdRom0 off =>
    rw [readRom_next h]
    exact ⟨rfl, rfl, rfl, rfl, rfl, rfl⟩
  | rdRomx off =>
    rw [readRom_next h]
    exact ⟨rfl, rfl, rfl, rfl, rfl, rfl⟩
  | rdXram off =>
    obtain ⟨v, e⟩ := exec_rdXram_next h
    rw [e]
    exact ⟨rfl, rfl, rfl, rfl, rfl, rfl⟩
  | wrXram off data => exact exec_wrXram_frame off data s t h
  | ext8000 write off data => exact .of_next (exec_ext8000 write off data s) ⟨rfl, rfl, rfl, rfl, rfl, rfl⟩ h
  | extC000 write off data => exact .of_next (exec_extC000 write off data s) ⟨rfl, rfl, rfl, rfl, rfl, rfl⟩ h
  | rtcRdS => exact .of_next (exec_rtcRdS s) ⟨rfl, rfl, rfl, rfl, rfl, rfl⟩ h
  | rtcRdM => exact .of_next (exec_rtcRdM s) ⟨rfl, rfl, rfl, rfl, rfl, rfl⟩ h
  | rtcRdH => exact .of_next (exec_rtcRdH s) ⟨rfl, rfl, rfl, rfl, rfl, rfl⟩ h
  | rtcRdDl => exact .of_next (exec_rtcRdDl s) ⟨rfl, rfl, rfl, rfl, rfl, rfl⟩ h
  | rtcRdDh => exact .of_next (exec_rtcRdDh s) ⟨rfl, rfl, rfl, rfl, rfl, rfl⟩ h
  | rtcWrS data => exact .of_next (exec_rtcWrS data s) ⟨rfl, rfl, rfl, rfl, rfl, rfl⟩ h
  | rtcWrM data => exact .of_next (exec_rtcWrM data s) ⟨rfl, rfl, rfl, rfl, rfl, rfl⟩ h
  | rtcWrH data => exact .of_next (exec_rtcWrH data s) ⟨rfl, rfl, rfl, rfl, rfl, rfl⟩ h
  | rtcWrDl data => exact .of_next (exec_rtcWrDl data s) ⟨rfl, rfl, rfl, rfl, rfl, rfl⟩ h
  | rtcWrDh data => exact .of_next (exec_rtcWrDh data s) ⟨rfl, rfl, rfl, rfl, rfl, rfl⟩ h
  | txRdMr0 => exact .of_next (exec_txRdMr0 s) ⟨rfl, rfl, rfl, rfl, rfl, rfl⟩ h
  | txRdMr1 => exact .of_next (exec_txRdMr1 s) ⟨rfl, rfl, rfl, rfl, rfl, rfl⟩ h
  | txRdMr2 => exact .of_next (exec_txRdMr2 s) ⟨rfl, rfl, rfl, rfl, rfl, rfl⟩ h
  | txRdMr3 => exact .of_next (exec_txRdMr3 s) ⟨rfl, rfl, rfl, rfl, rfl, rfl⟩ h
  | txRdW => exact .of_next (exec_txRdW s) ⟨rfl, rfl, rfl, rfl, rfl, rfl⟩ h
  | txRdH => exact .of_next (exec_txRdH s) ⟨rfl, rfl, rfl, rfl, rfl, rfl⟩ h
  | txRdM => exact .of_next (exec_txRdM s) ⟨rfl, rfl, rfl, rfl, rfl, rfl⟩ h
  | txRdS => exact .of_next (exec_txRdS s) ⟨rfl, rfl, rfl, rfl, rfl, rfl⟩ h
  | txWrW data => exact .of_next (exec_txWrW data s) ⟨rfl, rfl, rfl, rfl, rfl, rfl⟩ h
  | txWrH data => exact .of_next (exec_txWrH data s) ⟨rfl, rfl, rfl, rfl, rfl, rfl⟩ h
  | txWrM data => exact .of_next (exec_txWrM data s) ⟨rfl, rfl, rfl, rfl, rfl, rfl⟩ h
  | txWrS data => exact .of_next (exec_txWrS data s) ⟨rfl, rfl, rfl, rfl, rfl, rfl⟩ h
  | plainRamen data => exact .of_next (exec_plainRamen data s) ⟨rfl, rfl, rfl, rfl, rfl, rfl⟩ h
  | plainIgnR1 data => exact .of_next (exec_plainIgnR1 data s) ⟨rfl, rfl, rfl, rfl, rfl, rfl⟩ h
  | plainIgnR23 data => exact .of_next (exec_plainIgnR23 data s) ⟨rfl, rfl, rfl, rfl, rfl, rfl⟩ h
  | mbc1Ramen data => exact .of_next (exec_mbc1Ramen data s) ⟨rfl, rfl, rfl, rfl, rfl, rfl⟩ h
  | mbc1Bank1 data => exact .of_next (exec_mbc1Bank1 data s) ⟨rfl, rfl, rfl, rfl, rfl, rfl⟩ h
  | mbc1Bank2 data =>
    cases hm : s.mapper.ramBankMode
    · exact .of_next (exec_mbc1Bank2_rom data s hm) ⟨rfl, rfl, rfl, rfl, rfl, rfl⟩ h
    · exact .of_next (exec_mbc1Bank2_ram data s hm) ⟨rfl, rfl, rfl, rfl, rfl, rfl⟩ h
  | mbc1Mode data => exact .of_next (exec_mbc1Mode data s) ⟨rfl, rfl, rfl, rfl, rfl, rfl⟩ h
  | m64Ramen data => exact .of_next (exec_m64Ramen data s) ⟨rfl, rfl, rfl, rfl, rfl, rfl⟩ h
  | m64Bank1 data => exact .of_next (exec_m64Bank1 data s) ⟨rfl, rfl, rfl, rfl, rfl, rfl⟩ h
  | m64Bank2 data => exact .of_next (exec_m64Bank2 data s) ⟨rfl, rfl, rfl, rfl, rfl, rfl⟩ h
  | m64Mode data => exact .of_next (exec_m64Mode data s) ⟨rfl, rfl, rfl, rfl, rfl, rfl⟩ h
  | mbc2Ramen data => exact .of_next (exec_mbc2Ramen data s) ⟨rfl, rfl, rfl, rfl, rfl, rfl⟩ h
  | mbc2Romb data => exact .of_next (exec_mbc2Romb data s) ⟨rfl, rfl, rfl, rfl, rfl, rfl⟩ h
  | mbc2Ign0100 data => exact .of_next (exec_mbc2Ign0100 data s) ⟨rfl, rfl, rfl, rfl, rfl, rfl⟩ h
  | mbc2Ign2000 data => exact .of_next (exec_mbc2Ign2000 data s) ⟨rfl, rfl, rfl, rfl, rfl, rfl⟩ h
  | mbc2IgnHi data => exact .of_next (exec_mbc2IgnHi data s) ⟨rfl, rfl, rfl, rfl, rfl, rfl⟩ h
  | mbc3Ramen data => exact .of_next (exec_mbc3Ramen data s) ⟨rfl, rfl, rfl, rfl, rfl, rfl⟩ h
  | mbc3Romb data => exact .of_next (exec_mbc3Romb data s) ⟨rfl, rfl, rfl, rfl, rfl, rfl⟩ h
  | mbc3Ramb data => exact .of_next (exec_mbc3Ramb data s) ⟨rfl, rfl, rfl, rfl, rfl, rfl⟩ h
  | mbc3Latch data => exact exec_mbc3Latch_frame data s t h
  | huc1Ramen data => exact .of_next (exec_huc1Ramen data s) ⟨rfl, rfl, rfl, rfl, rfl, rfl⟩ h
  | huc1Romb data => exact .of_next (exec_huc1Romb data s) ⟨rfl, rfl, rfl, rfl, rfl, rfl⟩ h
  | huc1Ramb data =>
    cases hm : s.mapper.ramBankMode
    · exact .of_next (exec_huc1Ramb_rom data s hm) ⟨rfl, rfl, rfl, rfl, rfl, rfl⟩ h
    · exact .of_next (exec_huc1Ramb_ram data s hm) ⟨rfl, rfl, rfl, rfl, rfl, rfl⟩ h
  | huc1Mode data => exact .of_next (exec_huc1Mode data s) ⟨rfl, rfl, rfl, rfl, rfl, rfl⟩ h
  | mbc5Ramen data => exact .of_next (exec_mbc5Ramen data s) ⟨rfl, rfl, rfl, rfl, rfl, rfl⟩ h
  | mbc5Romb0 data => exact .of_next (exec_mbc5Romb0 data s) ⟨rfl, rfl, rfl, rfl, rfl, rfl⟩ h
  | mbc5Romb1 data => exact .of_next (exec_mbc5Romb1 data s) ⟨rfl, rfl, rfl, rfl, rfl, rfl⟩ h
  | mbc5Ramb data => exact .of_next (exec_mbc5Ramb data s) ⟨rfl, rfl, rfl, rfl, rfl, rfl⟩ h
  | mbc5Ign data => exact .of_next (exec_mbc5Ign data s) ⟨rfl, rfl, rfl, rfl, rfl, rfl⟩ h
  | tpp1Mr0 data => exact .of_next (exec_tpp1Mr0 data s) ⟨rfl, rfl, rfl, rfl, rfl, rfl⟩ h
  | tpp1Mr1 data => exact .of_next (exec_tpp1Mr1 data s) ⟨rfl, rfl, rfl, rfl, rfl, rfl⟩ h
  | tpp1Mr2 data => exact .of_next (exec_tpp1Mr2 data s) ⟨rfl, rfl, rfl, rfl, rfl, rfl⟩ h
  | tpp1Map0 => exact .of_next (exec_tpp1Map0 s) ⟨rfl, rfl, rfl, rfl, rfl, rfl⟩ h
  | tpp1Map1 => exact .of_next (exec_tpp1Map1 s) ⟨rfl, rfl, rfl, rfl, rfl, rfl⟩ h
  | tpp1Map2 => exact .of_next (exec_tpp1Map2 s) ⟨rfl, rfl, rfl, rfl, rfl, rfl⟩ h
  | tpp1Map3 => exact .of_next (exec_tpp1Map3 s) ⟨rfl, rfl, rfl, rfl, rfl, rfl⟩ h
  | tpp1Latch => exact .of_next (exec_tpp1Latch s) ⟨rfl, rfl, rfl, rfl, rfl, rfl⟩ h
  | tpp1Settime => exact .of_next (exec_tpp1Settime s) ⟨rfl, rfl, rfl, rfl, rfl, rfl⟩ h
  | tpp1Clrovf => exact .of_next (exec_tpp1Clrovf s) ⟨rfl, rfl, rfl, rfl, rfl, rfl⟩ h
  | tpp1Halt =>
    cases hr : s.tx.running
    · exact .of_next (exec_tpp1Halt_ignored s hr) ⟨rfl, rfl, rfl, rfl, rfl, rfl⟩ h
    · exact .of_next (exec_tpp1Halt_acts s hr) ⟨rfl, rfl, rfl, rfl, rfl, rfl⟩ h
  | tpp1Resume =>
    cases hr : s.tx.running
    · exact .of_next (exec_tpp1Resume_acts s hr) ⟨rfl, rfl, rfl, rfl, rfl, rfl⟩ h
    · exact .of_next (exec_tpp1Resume_ignored s hr) ⟨rfl, rfl, rfl, rfl, rfl, rfl⟩ h
  | tpp1Rumble level => exact .of_next (exec_tpp1Rumble level s) ⟨rfl, rfl, rfl, rfl, rfl, rfl⟩ h
  | tpp1Mr3ign code => exact .of_next (exec_tpp1Mr3ign code s) ⟨rfl, rfl, rfl, rfl, rfl, rfl⟩ h
  | tpp1Ign data => exact .of_next (exec_tpp1Ign data s) ⟨rfl, rfl, rfl, rfl, rfl, rfl⟩ h

end Sys2Proof.Machine
end

