-- ==== Sys2Proof/Laws/PerInstr.lean ====
section
/-! SUPPORT. Per instruction: the encoder's word is one the instruction's row of spec/opcode_table.json selects. -/

namespace Sys2Proof.Laws.TableRow

/-- The word of a well-formed transaction has the bits its row of the table asks for. -/
def Statement (i : Instr) : Prop := i.wf = true → i.row.selects (encode i) = true

/-- A word whose datum no mask bit reads. -/
theorem of_data (r : Row) (a : Addr) (rw : Bool) (d : Byte) (clear : r.mask.toNat % 2 ^ 8 = 0)
    (h : r.selects (pack rw a 0#8) = true) : r.selects (pack rw a d) = true := by
  unfold Row.selects at h ⊢
  rwa [pack_data_and rw a d r.mask clear]

/-- A word whose RAM-window offset no mask bit reads. -/
theorem of_off13 (r : Row) (hi : BitVec 3) (rw : Bool) (off : BitVec 13) (d : Byte) (clear : r.mask.toNat % 2 ^ 21 = 0)
    (h : r.selects (pack rw (hi ++ 0#13) 0#8) = true) : r.selects (pack rw (hi ++ off) d) = true := by
  unfold Row.selects at h ⊢
  rwa [pack_off13_and rw hi off d r.mask clear]

/-- A word whose ROM-window offset no mask bit reads. -/
theorem of_off14 (r : Row) (hi : BitVec 2) (rw : Bool) (off : BitVec 14) (d : Byte) (clear : r.mask.toNat % 2 ^ 22 = 0)
    (h : r.selects (pack rw (hi ++ 0#14) 0#8) = true) : r.selects (pack rw (hi ++ off) d) = true := by
  unfold Row.selects at h ⊢
  rwa [pack_off14_and rw hi off d r.mask clear]

theorem rdRom0 (off : BitVec 14) : Statement (.rdRom0 off) := fun _ =>
  of_off14 _ _ _ _ _ (by decide : (Instr.rdRom0 0#14).row.mask.toNat % 2 ^ 22 = 0)
    (by decide : Row.selects (Instr.rdRom0 0#14).row (pack false (0b00#2 ++ 0#14) 0#8) = true)
theorem rdRomx (off : BitVec 14) : Statement (.rdRomx off) := fun _ =>
  of_off14 _ _ _ _ _ (by decide : (Instr.rdRomx 0#14).row.mask.toNat % 2 ^ 22 = 0)
    (by decide : Row.selects (Instr.rdRomx 0#14).row (pack false (0b01#2 ++ 0#14) 0#8) = true)
theorem rdXram (off : BitVec 13) : Statement (.rdXram off) := fun _ =>
  of_off13 _ _ _ _ _ (by decide : (Instr.rdXram 0#13).row.mask.toNat % 2 ^ 21 = 0)
    (by decide : Row.selects (Instr.rdXram 0#13).row (pack false (0b101#3 ++ 0#13) 0#8) = true)
theorem wrXram (off : BitVec 13) (data : Byte) : Statement (.wrXram off data) := fun _ =>
  of_off13 _ _ _ _ _ (by decide : (Instr.wrXram 0#13 0#8).row.mask.toNat % 2 ^ 21 = 0)
    (by decide : Row.selects (Instr.wrXram 0#13 0#8).row (pack true (0b101#3 ++ 0#13) 0#8) = true)
theorem ext8000 (write : Bool) (off : BitVec 13) (data : Byte) : Statement (.ext8000 write off data) := fun _ =>
  of_off13 _ _ _ _ _ (by decide : (Instr.ext8000 false 0#13 0#8).row.mask.toNat % 2 ^ 21 = 0)
    (by cases write <;> decide : Row.selects (Instr.ext8000 write 0#13 0#8).row (pack write (0b100#3 ++ 0#13) 0#8) = true)
theorem extC000 (write : Bool) (off : BitVec 14) (data : Byte) : Statement (.extC000 write off data) := fun _ =>
  of_off14 _ _ _ _ _ (by decide : (Instr.extC000 false 0#14 0#8).row.mask.toNat % 2 ^ 22 = 0)
    (by cases write <;> decide : Row.selects (Instr.extC000 write 0#14 0#8).row (pack write (0b11#2 ++ 0#14) 0#8) = true)
theorem rtcRdS : Statement .rtcRdS := fun _ => by decide
theorem rtcRdM : Statement .rtcRdM := fun _ => by decide
theorem rtcRdH : Statement .rtcRdH := fun _ => by decide
theorem rtcRdDl : Statement .rtcRdDl := fun _ => by decide
theorem rtcRdDh : Statement .rtcRdDh := fun _ => by decide
theorem rtcWrS (data : Byte) : Statement (.rtcWrS data) := fun _ =>
  of_data _ _ _ _ (by decide : (Instr.rtcWrS 0#8).row.mask.toNat % 2 ^ 8 = 0)
    (by decide : Row.selects (Instr.rtcWrS 0#8).row (encode (.rtcWrS 0#8)) = true)
theorem rtcWrM (data : Byte) : Statement (.rtcWrM data) := fun _ =>
  of_data _ _ _ _ (by decide : (Instr.rtcWrM 0#8).row.mask.toNat % 2 ^ 8 = 0)
    (by decide : Row.selects (Instr.rtcWrM 0#8).row (encode (.rtcWrM 0#8)) = true)
theorem rtcWrH (data : Byte) : Statement (.rtcWrH data) := fun _ =>
  of_data _ _ _ _ (by decide : (Instr.rtcWrH 0#8).row.mask.toNat % 2 ^ 8 = 0)
    (by decide : Row.selects (Instr.rtcWrH 0#8).row (encode (.rtcWrH 0#8)) = true)
theorem rtcWrDl (data : Byte) : Statement (.rtcWrDl data) := fun _ =>
  of_data _ _ _ _ (by decide : (Instr.rtcWrDl 0#8).row.mask.toNat % 2 ^ 8 = 0)
    (by decide : Row.selects (Instr.rtcWrDl 0#8).row (encode (.rtcWrDl 0#8)) = true)
theorem rtcWrDh (data : Byte) : Statement (.rtcWrDh data) := fun _ =>
  of_data _ _ _ _ (by decide : (Instr.rtcWrDh 0#8).row.mask.toNat % 2 ^ 8 = 0)
    (by decide : Row.selects (Instr.rtcWrDh 0#8).row (encode (.rtcWrDh 0#8)) = true)
theorem txRdMr0 : Statement .txRdMr0 := fun _ => by decide
theorem txRdMr1 : Statement .txRdMr1 := fun _ => by decide
theorem txRdMr2 : Statement .txRdMr2 := fun _ => by decide
theorem txRdMr3 : Statement .txRdMr3 := fun _ => by decide
theorem txRdW : Statement .txRdW := fun _ => by decide
theorem txRdH : Statement .txRdH := fun _ => by decide
theorem txRdM : Statement .txRdM := fun _ => by decide
theorem txRdS : Statement .txRdS := fun _ => by decide
theorem txWrW (data : Byte) : Statement (.txWrW data) := fun _ =>
  of_data _ _ _ _ (by decide : (Instr.txWrW 0#8).row.mask.toNat % 2 ^ 8 = 0)
    (by decide : Row.selects (Instr.txWrW 0#8).row (encode (.txWrW 0#8)) = true)
theorem txWrH (data : Byte) : Statement (.txWrH data) := fun _ =>
  of_data _ _ _ _ (by decide : (Instr.txWrH 0#8).row.mask.toNat % 2 ^ 8 = 0)
    (by decide : Row.selects (Instr.txWrH 0#8).row (encode (.txWrH 0#8)) = true)
theorem txWrM (data : Byte) : Statement (.txWrM data) := fun _ =>
  of_data _ _ _ _ (by decide : (Instr.txWrM 0#8).row.mask.toNat % 2 ^ 8 = 0)
    (by decide : Row.selects (Instr.txWrM 0#8).row (encode (.txWrM 0#8)) = true)
theorem txWrS (data : Byte) : Statement (.txWrS data) := fun _ =>
  of_data _ _ _ _ (by decide : (Instr.txWrS 0#8).row.mask.toNat % 2 ^ 8 = 0)
    (by decide : Row.selects (Instr.txWrS 0#8).row (encode (.txWrS 0#8)) = true)
theorem plainRamen (data : Byte) : Statement (.plainRamen data) := fun _ =>
  of_data _ _ _ _ (by decide : (Instr.plainRamen 0#8).row.mask.toNat % 2 ^ 8 = 0)
    (by decide : Row.selects (Instr.plainRamen 0#8).row (encode (.plainRamen 0#8)) = true)
theorem plainIgnR1 (data : Byte) : Statement (.plainIgnR1 data) := fun _ =>
  of_data _ _ _ _ (by decide : (Instr.plainIgnR1 0#8).row.mask.toNat % 2 ^ 8 = 0)
    (by decide : Row.selects (Instr.plainIgnR1 0#8).row (encode (.plainIgnR1 0#8)) = true)
theorem plainIgnR23 (data : Byte) : Statement (.plainIgnR23 data) := fun _ =>
  of_data _ _ _ _ (by decide : (Instr.plainIgnR23 0#8).row.mask.toNat % 2 ^ 8 = 0)
    (by decide : Row.selects (Instr.plainIgnR23 0#8).row (encode (.plainIgnR23 0#8)) = true)
theorem mbc1Ramen (data : Byte) : Statement (.mbc1Ramen data) := fun _ =>
  of_data _ _ _ _ (by decide : (Instr.mbc1Ramen 0#8).row.mask.toNat % 2 ^ 8 = 0)
    (by decide : Row.selects (Instr.mbc1Ramen 0#8).row (encode (.mbc1Ramen 0#8)) = true)
theorem mbc1Bank1 (data : Byte) : Statement (.mbc1Bank1 data) := fun _ =>
  of_data _ _ _ _ (by decide : (Instr.mbc1Bank1 0#8).row.mask.toNat % 2 ^ 8 = 0)
    (by decide : Row.selects (Instr.mbc1Bank1 0#8).row (encode (.mbc1Bank1 0#8)) = true)
theorem mbc1Bank2 (data : Byte) : Statement (.mbc1Bank2 data) := fun _ =>
  of_data _ _ _ _ (by decide : (Instr.mbc1Bank2 0#8).row.mask.toNat % 2 ^ 8 = 0)
    (by decide : Row.selects (Instr.mbc1Bank2 0#8).row (encode (.mbc1Bank2 0#8)) = true)
theorem mbc1Mode (data : Byte) : Statement (.mbc1Mode data) := fun _ =>
  of_data _ _ _ _ (by decide : (Instr.mbc1Mode 0#8).row.mask.toNat % 2 ^ 8 = 0)
    (by decide : Row.selects (Instr.mbc1Mode 0#8).row (encode (.mbc1Mode 0#8)) = true)
theorem m64Ramen (data : Byte) : Statement (.m64Ramen data) := fun _ =>
  of_data _ _ _ _ (by decide : (Instr.m64Ramen 0#8).row.mask.toNat % 2 ^ 8 = 0)
    (by decide : Row.selects (Instr.m64Ramen 0#8).row (encode (.m64Ramen 0#8)) = true)
theorem m64Bank1 (data : Byte) : Statement (.m64Bank1 data) := fun _ =>
  of_data _ _ _ _ (by decide : (Instr.m64Bank1 0#8).row.mask.toNat % 2 ^ 8 = 0)
    (by decide : Row.selects (Instr.m64Bank1 0#8).row (encode (.m64Bank1 0#8)) = true)
theorem m64Bank2 (data : Byte) : Statement (.m64Bank2 data) := fun _ =>
  of_data _ _ _ _ (by decide : (Instr.m64Bank2 0#8).row.mask.toNat % 2 ^ 8 = 0)
    (by decide : Row.selects (Instr.m64Bank2 0#8).row (encode (.m64Bank2 0#8)) = true)
theorem m64Mode (data : Byte) : Statement (.m64Mode data) := fun _ =>
  of_data _ _ _ _ (by decide : (Instr.m64Mode 0#8).row.mask.toNat % 2 ^ 8 = 0)
    (by decide : Row.selects (Instr.m64Mode 0#8).row (encode (.m64Mode 0#8)) = true)
theorem mbc2Ramen (data : Byte) : Statement (.mbc2Ramen data) := fun _ =>
  of_data _ _ _ _ (by decide : (Instr.mbc2Ramen 0#8).row.mask.toNat % 2 ^ 8 = 0)
    (by decide : Row.selects (Instr.mbc2Ramen 0#8).row (encode (.mbc2Ramen 0#8)) = true)
theorem mbc2Romb (data : Byte) : Statement (.mbc2Romb data) := fun _ =>
  of_data _ _ _ _ (by decide : (Instr.mbc2Romb 0#8).row.mask.toNat % 2 ^ 8 = 0)
    (by decide : Row.selects (Instr.mbc2Romb 0#8).row (encode (.mbc2Romb 0#8)) = true)
theorem mbc2Ign0100 (data : Byte) : Statement (.mbc2Ign0100 data) := fun _ =>
  of_data _ _ _ _ (by decide : (Instr.mbc2Ign0100 0#8).row.mask.toNat % 2 ^ 8 = 0)
    (by decide : Row.selects (Instr.mbc2Ign0100 0#8).row (encode (.mbc2Ign0100 0#8)) = true)
theorem mbc2Ign2000 (data : Byte) : Statement (.mbc2Ign2000 data) := fun _ =>
  of_data _ _ _ _ (by decide : (Instr.mbc2Ign2000 0#8).row.mask.toNat % 2 ^ 8 = 0)
    (by decide : Row.selects (Instr.mbc2Ign2000 0#8).row (encode (.mbc2Ign2000 0#8)) = true)
theorem mbc2IgnHi (data : Byte) : Statement (.mbc2IgnHi data) := fun _ =>
  of_data _ _ _ _ (by decide : (Instr.mbc2IgnHi 0#8).row.mask.toNat % 2 ^ 8 = 0)
    (by decide : Row.selects (Instr.mbc2IgnHi 0#8).row (encode (.mbc2IgnHi 0#8)) = true)
theorem mbc3Ramen (data : Byte) : Statement (.mbc3Ramen data) := fun _ =>
  of_data _ _ _ _ (by decide : (Instr.mbc3Ramen 0#8).row.mask.toNat % 2 ^ 8 = 0)
    (by decide : Row.selects (Instr.mbc3Ramen 0#8).row (encode (.mbc3Ramen 0#8)) = true)
theorem mbc3Romb (data : Byte) : Statement (.mbc3Romb data) := fun _ =>
  of_data _ _ _ _ (by decide : (Instr.mbc3Romb 0#8).row.mask.toNat % 2 ^ 8 = 0)
    (by decide : Row.selects (Instr.mbc3Romb 0#8).row (encode (.mbc3Romb 0#8)) = true)
theorem mbc3Ramb (data : Byte) : Statement (.mbc3Ramb data) := fun _ =>
  of_data _ _ _ _ (by decide : (Instr.mbc3Ramb 0#8).row.mask.toNat % 2 ^ 8 = 0)
    (by decide : Row.selects (Instr.mbc3Ramb 0#8).row (encode (.mbc3Ramb 0#8)) = true)
theorem mbc3Latch (data : Byte) : Statement (.mbc3Latch data) := fun _ =>
  of_data _ _ _ _ (by decide : (Instr.mbc3Latch 0#8).row.mask.toNat % 2 ^ 8 = 0)
    (by decide : Row.selects (Instr.mbc3Latch 0#8).row (encode (.mbc3Latch 0#8)) = true)
theorem huc1Ramen (data : Byte) : Statement (.huc1Ramen data) := fun _ =>
  of_data _ _ _ _ (by decide : (Instr.huc1Ramen 0#8).row.mask.toNat % 2 ^ 8 = 0)
    (by decide : Row.selects (Instr.huc1Ramen 0#8).row (encode (.huc1Ramen 0#8)) = true)
theorem huc1Romb (data : Byte) : Statement (.huc1Romb data) := fun _ =>
  of_data _ _ _ _ (by decide : (Instr.huc1Romb 0#8).row.mask.toNat % 2 ^ 8 = 0)
    (by decide : Row.selects (Instr.huc1Romb 0#8).row (encode (.huc1Romb 0#8)) = true)
theorem huc1Ramb (data : Byte) : Statement (.huc1Ramb data) := fun _ =>
  of_data _ _ _ _ (by decide : (Instr.huc1Ramb 0#8).row.mask.toNat % 2 ^ 8 = 0)
    (by decide : Row.selects (Instr.huc1Ramb 0#8).row (encode (.huc1Ramb 0#8)) = true)
theorem huc1Mode (data : Byte) : Statement (.huc1Mode data) := fun _ =>
  of_data _ _ _ _ (by decide : (Instr.huc1Mode 0#8).row.mask.toNat % 2 ^ 8 = 0)
    (by decide : Row.selects (Instr.huc1Mode 0#8).row (encode (.huc1Mode 0#8)) = true)
theorem mbc5Ramen (data : Byte) : Statement (.mbc5Ramen data) := fun _ =>
  of_data _ _ _ _ (by decide : (Instr.mbc5Ramen 0#8).row.mask.toNat % 2 ^ 8 = 0)
    (by decide : Row.selects (Instr.mbc5Ramen 0#8).row (encode (.mbc5Ramen 0#8)) = true)
theorem mbc5Romb0 (data : Byte) : Statement (.mbc5Romb0 data) := fun _ =>
  of_data _ _ _ _ (by decide : (Instr.mbc5Romb0 0#8).row.mask.toNat % 2 ^ 8 = 0)
    (by decide : Row.selects (Instr.mbc5Romb0 0#8).row (encode (.mbc5Romb0 0#8)) = true)
theorem mbc5Romb1 (data : Byte) : Statement (.mbc5Romb1 data) := fun _ =>
  of_data _ _ _ _ (by decide : (Instr.mbc5Romb1 0#8).row.mask.toNat % 2 ^ 8 = 0)
    (by decide : Row.selects (Instr.mbc5Romb1 0#8).row (encode (.mbc5Romb1 0#8)) = true)
theorem mbc5Ramb (data : Byte) : Statement (.mbc5Ramb data) := fun _ =>
  of_data _ _ _ _ (by decide : (Instr.mbc5Ramb 0#8).row.mask.toNat % 2 ^ 8 = 0)
    (by decide : Row.selects (Instr.mbc5Ramb 0#8).row (encode (.mbc5Ramb 0#8)) = true)
theorem mbc5Ign (data : Byte) : Statement (.mbc5Ign data) := fun _ =>
  of_data _ _ _ _ (by decide : (Instr.mbc5Ign 0#8).row.mask.toNat % 2 ^ 8 = 0)
    (by decide : Row.selects (Instr.mbc5Ign 0#8).row (encode (.mbc5Ign 0#8)) = true)
theorem tpp1Mr0 (data : Byte) : Statement (.tpp1Mr0 data) := fun _ =>
  of_data _ _ _ _ (by decide : (Instr.tpp1Mr0 0#8).row.mask.toNat % 2 ^ 8 = 0)
    (by decide : Row.selects (Instr.tpp1Mr0 0#8).row (encode (.tpp1Mr0 0#8)) = true)
theorem tpp1Mr1 (data : Byte) : Statement (.tpp1Mr1 data) := fun _ =>
  of_data _ _ _ _ (by decide : (Instr.tpp1Mr1 0#8).row.mask.toNat % 2 ^ 8 = 0)
    (by decide : Row.selects (Instr.tpp1Mr1 0#8).row (encode (.tpp1Mr1 0#8)) = true)
theorem tpp1Mr2 (data : Byte) : Statement (.tpp1Mr2 data) := fun _ =>
  of_data _ _ _ _ (by decide : (Instr.tpp1Mr2 0#8).row.mask.toNat % 2 ^ 8 = 0)
    (by decide : Row.selects (Instr.tpp1Mr2 0#8).row (encode (.tpp1Mr2 0#8)) = true)
theorem tpp1Map0 : Statement .tpp1Map0 := fun _ => by decide
theorem tpp1Map1 : Statement .tpp1Map1 := fun _ => by decide
theorem tpp1Map2 : Statement .tpp1Map2 := fun _ => by decide
theorem tpp1Map3 : Statement .tpp1Map3 := fun _ => by decide
theorem tpp1Latch : Statement .tpp1Latch := fun _ => by decide
theorem tpp1Settime : Statement .tpp1Settime := fun _ => by decide
theorem tpp1Clrovf : Statement .tpp1Clrovf := fun _ => by decide
theorem tpp1Halt : Statement .tpp1Halt := fun _ => by decide
theorem tpp1Resume : Statement .tpp1Resume := fun _ => by decide
theorem tpp1Rumble (level : BitVec 2) : Statement (.tpp1Rumble level) := by
  revert level
  unfold Statement
  decide
theorem tpp1Mr3ign (code : Byte) : Statement (.tpp1Mr3ign code) := fun _ =>
  of_data _ _ _ _ (by decide : (Instr.tpp1Mr3ign 0#8).row.mask.toNat % 2 ^ 8 = 0)
    (by decide : Row.selects (Instr.tpp1Mr3ign 0#8).row (encode (.tpp1Mr3ign 0#8)) = true)
theorem tpp1Ign (data : Byte) : Statement (.tpp1Ign data) := fun _ =>
  of_data _ _ _ _ (by decide : (Instr.tpp1Ign 0#8).row.mask.toNat % 2 ^ 8 = 0)
    (by decide : Row.selects (Instr.tpp1Ign 0#8).row (encode (.tpp1Ign 0#8)) = true)

end Sys2Proof.Laws.TableRow
end

