-- ==== Sys2Proof/Tests/Slice0.lean ====
section
/-! SUPPORT. The model's own tests. Expected values are those of spec/95_test_vectors.md (the vector is named) or of the
rule named. The theorems `witness_…` show, for each statement with hypotheses, concrete data that meet all of them. -/

namespace Sys2Proof.Machine

/-! ## Small states -/

/-- A cartridge right after reset. -/
def cart (v : Variant) (rombanks rambanks : Nat) (clock : Bool) : State :=
  State.resetFor ⟨v, rombanks, rambanks, clock && v == .mbc3, if v = .tpp1 ∧ clock then 0x0C#8 else 0#8, true, clock,
    true, false⟩ []

/-- The state with other mapper registers, its windows aimed by them. -/
def withMapper (m : Mapper) (s : State) : State := sync { s with mapper := m }

/-- The state after the word is issued; unchanged if it stops. -/
def issue (t : Word) (s : State) : State :=
  match step { s with queue := [.bus t] } with
  | .next u => u
  | _ => s

/-- The next state, where there is one. -/
def nextOf : Result → Option State
  | .next u => some u
  | .fault _ => none
  | .refused _ => none

theorem of_nextOf {r : Result} {t : State} (h : nextOf r = some t) : r = .next t := by
  cases r with
  | next u => exact congrArg _ (Option.some.inj h)
  | fault _ => nomatch h
  | refused _ => nomatch h

/-- The state with another answer of the host clock. -/
def atTime (v : Time) (s : State) : State := { s with hostNow := v }

def cPlain : State := cart .plain 2 1 false
def cMbc1 : State := withMapper ⟨0x7F#16, 0#8, true, false, 0#2⟩ (cart .mbc1 128 4 false)
def cMbc1Ram : State := withMapper ⟨0x60#16, 3#8, true, true, 0#2⟩ (cart .mbc1 128 4 false)
def cM64 : State := cart .mbc1m64 64 0 false
def cM64Multi : State := withMapper ⟨0x7F#16, 0#8, false, true, 0#2⟩ cM64
def cMbc2 : State := cart .mbc2 16 1 false
def cMbc3 : State := cart .mbc3 64 4 true
def cMbc3NoClock : State := cart .mbc3 64 4 false
def cMbc3At (bank : RamBank) : State := withMapper ⟨1#16, bank, true, false, 0#2⟩ cMbc3
def cHuc1 : State := withMapper ⟨0x3F#16, 2#8, false, false, 0#2⟩ (cart .huc1 256 4 false)
def cHuc1Ram : State := withMapper ⟨0x3F#16, 2#8, true, true, 0#2⟩ (cart .huc1 256 4 false)
def cMbc5 : State := withMapper ⟨0x1FF#16, 0xF#8, true, false, 0#2⟩ (cart .mbc5 512 16 false)
def cTpp1 : State := withMapper ⟨0xFFFF#16, 0x83#8, false, false, 0#2⟩ (cart .tpp1 65536 4 true)
def cTpp1At (k : BitVec 2) : State := withMapper ⟨0xFFFF#16, 0x83#8, false, false, k⟩ (cart .tpp1 65536 4 true)
def cTpp1NoClock : State := withMapper ⟨1#16, 0#8, false, false, 3#2⟩ (cart .tpp1 64 4 false)

/-- The invariant of a state with nothing requested, from conditions that can be evaluated. -/
theorem invariant_of {s : State} (q : s.queue = []) (h :
    s.cfg.legal = true ∧
    (rombankLegal s.cfg.variant s.mapper.rombank = true ∧ rambankLegal s.cfg.variant s.mapper.rambank = true ∧
      (s.cfg.variant = .tpp1 → s.mapper.enableRam = false) ∧
      (hasModeRegister s.cfg.variant = false → s.mapper.ramBankMode = false) ∧
      (s.cfg.variant ≠ .tpp1 → s.mapper.mapmode = 0#2)) ∧
    (s.cfg.rtcWired = false → s.rtc.active = false) ∧ (s.cfg.rtcWired = false → s.rtc.lastLatch = false) ∧
    s.tx.curmap = s.mapper.mapmode ∧ s.tx.enabled = decide (s.cfg.variant = .tpp1) ∧
    (s.tx.features = if s.cfg.variant = .tpp1 then s.cfg.features else 0#8) ∧
    Memory.wf ramBlank s.ram = true ∧ Memory.below s.cfg.ramSize s.ram = true ∧
    Memory.wf romBlank s.rom = true ∧ Memory.below s.cfg.romSize s.rom = true ∧
    sync s = s) : Invariant s := by
  obtain ⟨c, ⟨m1, m2, m3, m4, m5⟩, r1, r2, x1, x2, x3, a1, a2, o1, o2, w⟩ := h
  exact ⟨c, ⟨m1, m2, m3, m4, m5⟩, ⟨r1, r2⟩, ⟨x1, x2, x3⟩, ⟨a1, a2⟩, ⟨o1, o2⟩, w, by simp [q]⟩

theorem inv_cPlain : Invariant cPlain := invariant_of rfl (by decide)
theorem inv_cMbc1 : Invariant cMbc1 := invariant_of rfl (by decide)
theorem inv_cMbc1Ram : Invariant cMbc1Ram := invariant_of rfl (by decide)
theorem inv_cM64 : Invariant cM64 := invariant_of rfl (by decide)
theorem inv_cM64Multi : Invariant cM64Multi := invariant_of rfl (by decide)
theorem inv_cMbc2 : Invariant cMbc2 := invariant_of rfl (by decide)
theorem inv_cMbc3 : Invariant cMbc3 := invariant_of rfl (by decide)
theorem inv_cMbc3NoClock : Invariant cMbc3NoClock := invariant_of rfl (by decide)
theorem inv_cMbc3At8 : Invariant (cMbc3At 0x08#8) := invariant_of rfl (by decide)
theorem inv_cMbc3AtC : Invariant (cMbc3At 0x0C#8) := invariant_of rfl (by decide)
theorem inv_cHuc1 : Invariant cHuc1 := invariant_of rfl (by decide)
theorem inv_cHuc1Ram : Invariant cHuc1Ram := invariant_of rfl (by decide)
theorem inv_cMbc5 : Invariant cMbc5 := invariant_of rfl (by decide)
theorem inv_cTpp1 : Invariant cTpp1 := invariant_of rfl (by decide)
theorem inv_cTpp1At2 : Invariant (cTpp1At 2#2) := invariant_of rfl (by decide)
theorem inv_cTpp1At3 : Invariant (cTpp1At 3#2) := invariant_of rfl (by decide)
theorem inv_cTpp1NoClock : Invariant cTpp1NoClock := invariant_of rfl (by decide)

/-! ## Decoding: one word of every constructor, from the table of spec/30_encoding.md R136 -/

/-- The mode of a variant with its RAM window on plain RAM. -/
def modeOf (v : Variant) : DecodeMode := ⟨v, v == .mbc3, true, true, false, .s, 2#2⟩

/-- The mode of an MBC3 whose window shows the register `r`. -/
def modeRtc (r : RtcReg) : DecodeMode := ⟨.mbc3, true, true, true, true, r, 0#2⟩

/-- The mode of a TPP1 whose window shows the registers of map mode `k`. -/
def modeTx (k : BitVec 2) : DecodeMode := ⟨.tpp1, false, true, k == 3#2, true, .s, k⟩

theorem test_decode_windows :
    decode (modeOf .mbc5) 0x03FFF00#25 = .rdRom0 0x3FFF#14 ∧ decode (modeOf .mbc5) 0x0412300#25 = .rdRomx 0x0123#14 ∧
    decode (modeOf .mbc5) 0x0BFFF00#25 = .rdXram 0x1FFF#13 ∧ decode (modeOf .mbc5) 0x1BFFF13#25 = .wrXram 0x1FFF#13 0x13#8 ∧
    decode (modeOf .mbc5) 0x09FFF00#25 = .ext8000 false 0x1FFF#13 0#8 ∧
    decode (modeOf .mbc5) 0x1C00012#25 = .extC000 true 0#14 0x12#8 := by decide

theorem test_decode_rtc :
    decode (modeRtc .s) 0x0B12300#25 = .rtcRdS ∧ decode (modeRtc .m) 0x0A00000#25 = .rtcRdM ∧
    decode (modeRtc .h) 0x0A00000#25 = .rtcRdH ∧ decode (modeRtc .dl) 0x0A00000#25 = .rtcRdDl ∧
    decode (modeRtc .dh) 0x0BFFF00#25 = .rtcRdDh ∧ decode (modeRtc .s) 0x1A0001E#25 = .rtcWrS 0x1E#8 ∧
    decode (modeRtc .m) 0x1A00007#25 = .rtcWrM 7#8 ∧ decode (modeRtc .h) 0x1A00017#25 = .rtcWrH 0x17#8 ∧
    decode (modeRtc .dl) 0x1A000FF#25 = .rtcWrDl 0xFF#8 ∧ decode (modeRtc .dh) 0x1A00040#25 = .rtcWrDh 0x40#8 := by decide

theorem test_decode_tx :
    decode (modeTx 0#2) 0x0BFFC00#25 = .txRdMr0 ∧ decode (modeTx 0#2) 0x0A00100#25 = .txRdMr1 ∧
    decode (modeTx 0#2) 0x0A00200#25 = .txRdMr2 ∧ decode (modeTx 0#2) 0x0BFFF00#25 = .txRdMr3 ∧
    decode (modeTx 3#2) 0x0A00000#25 = .txRdW ∧ decode (modeTx 3#2) 0x0A00100#25 = .txRdH ∧
    decode (modeTx 3#2) 0x0A00200#25 = .txRdM ∧ decode (modeTx 3#2) 0x0A00300#25 = .txRdS ∧
    decode (modeTx 3#2) 0x1A00001#25 = .txWrW 1#8 ∧ decode (modeTx 3#2) 0x1A00121#25 = .txWrH 0x21#8 ∧
    decode (modeTx 3#2) 0x1A00202#25 = .txWrM 2#8 ∧ decode (modeTx 3#2) 0x1A00303#25 = .txWrS 3#8 := by decide

theorem test_decode_plain_mbc1 :
    decode (modeOf .plain) 0x100000A#25 = .plainRamen 0x0A#8 ∧ decode (modeOf .plain) 0x1200001#25 = .plainIgnR1 1#8 ∧
    decode (modeOf .plain) 0x17FFF02#25 = .plainIgnR23 2#8 ∧ decode (modeOf .mbc1) 0x11FFF0A#25 = .mbc1Ramen 0x0A#8 ∧
    decode (modeOf .mbc1) 0x1200002#25 = .mbc1Bank1 2#8 ∧ decode (modeOf .mbc1) 0x1400003#25 = .mbc1Bank2 3#8 ∧
    decode (modeOf .mbc1) 0x1600001#25 = .mbc1Mode 1#8 ∧ decode (modeOf .mbc1m64) 0x1000000#25 = .m64Ramen 0#8 ∧
    decode (modeOf .mbc1m64) 0x1200011#25 = .m64Bank1 0x11#8 ∧ decode (modeOf .mbc1m64) 0x1400001#25 = .m64Bank2 1#8 ∧
    decode (modeOf .mbc1m64) 0x1600001#25 = .m64Mode 1#8 := by decide

theorem test_decode_mbc2_mbc3_huc1 :
    decode (modeOf .mbc2) 0x100000A#25 = .mbc2Ramen 0x0A#8 ∧ decode (modeOf .mbc2) 0x1210007#25 = .mbc2Romb 7#8 ∧
    decode (modeOf .mbc2) 0x101000A#25 = .mbc2Ign0100 0x0A#8 ∧ decode (modeOf .mbc2) 0x1200003#25 = .mbc2Ign2000 3#8 ∧
    decode (modeOf .mbc2) 0x1410003#25 = .mbc2IgnHi 3#8 ∧ decode (modeOf .mbc3) 0x100000A#25 = .mbc3Ramen 0x0A#8 ∧
    decode (modeOf .mbc3) 0x1200080#25 = .mbc3Romb 0x80#8 ∧ decode (modeOf .mbc3) 0x1400008#25 = .mbc3Ramb 8#8 ∧
    decode (modeOf .mbc3) 0x1600001#25 = .mbc3Latch 1#8 ∧ decode (modeOf .huc1) 0x100000A#25 = .huc1Ramen 0x0A#8 ∧
    decode (modeOf .huc1) 0x120003F#25 = .huc1Romb 0x3F#8 ∧ decode (modeOf .huc1) 0x1400002#25 = .huc1Ramb 2#8 ∧
    decode (modeOf .huc1) 0x1600001#25 = .huc1Mode 1#8 := by decide

theorem test_decode_mbc5_tpp1 :
    decode (modeOf .mbc5) 0x100000A#25 = .mbc5Ramen 0x0A#8 ∧ decode (modeOf .mbc5) 0x12FFF34#25 = .mbc5Romb0 0x34#8 ∧
    decode (modeOf .mbc5) 0x1300001#25 = .mbc5Romb1 1#8 ∧ decode (modeOf .mbc5) 0x140000F#25 = .mbc5Ramb 0x0F#8 ∧
    decode (modeOf .mbc5) 0x1600001#25 = .mbc5Ign 1#8 ∧ decode (modeOf .tpp1) 0x13FFC07#25 = .tpp1Mr0 7#8 ∧
    decode (modeOf .tpp1) 0x1000112#25 = .tpp1Mr1 0x12#8 ∧ decode (modeOf .tpp1) 0x1123602#25 = .tpp1Mr2 2#8 ∧
    decode (modeOf .tpp1) 0x1400009#25 = .tpp1Ign 9#8 := by decide

theorem test_decode_tpp1_commands :
    decode (modeOf .tpp1) 0x1000300#25 = .tpp1Map0 ∧ decode (modeOf .tpp1) 0x1000302#25 = .tpp1Map1 ∧
    decode (modeOf .tpp1) 0x1000303#25 = .tpp1Map2 ∧ decode (modeOf .tpp1) 0x1000305#25 = .tpp1Map3 ∧
    decode (modeOf .tpp1) 0x1000310#25 = .tpp1Latch ∧ decode (modeOf .tpp1) 0x1000311#25 = .tpp1Settime ∧
    decode (modeOf .tpp1) 0x1000314#25 = .tpp1Clrovf ∧ decode (modeOf .tpp1) 0x1000318#25 = .tpp1Halt ∧
    decode (modeOf .tpp1) 0x1000319#25 = .tpp1Resume ∧ decode (modeOf .tpp1) 0x1000323#25 = .tpp1Rumble 3#2 ∧
    decode (modeOf .tpp1) 0x1000324#25 = .tpp1Mr3ign 0x24#8 := by decide

/-- R120: `T` has 25 bits; bytes that are no word are rejected by name. -/
theorem test_decode_bytes :
    decodeBytes (modeOf .mbc1) [0x01#8, 0x00#8, 0x20#8, 0x01#8] = .ok (.mbc1Bank1 1#8) ∧
    decodeBytes (modeOf .mbc1) [0x01#8, 0x00#8, 0x20#8] = .error .tooShort ∧
    decodeBytes (modeOf .mbc1) [0x01#8, 0x00#8, 0x20#8, 0x01#8, 0x00#8] = .error .tooLong ∧
    decodeBytes (modeOf .mbc1) [0x01#8, 0x00#8, 0x20#8, 0x02#8] = .error .bitsAboveWord := by decide

theorem test_decode_table_word :
    decodeTableWord 25 0x1000311 = some .tpp1Settime ∧ decodeMode State.reset = DecodeMode.afterReset Config.resetCfg := by
  decide

/-! ## WellFormed refuses ill-formed terms -/

theorem test_wf_mr3ign : (Instr.tpp1Mr3ign 0x00#8).wf = false ∧ (Instr.tpp1Mr3ign 0x23#8).wf = false
    ∧ (Instr.tpp1Mr3ign 0x24#8).wf = true := by decide

theorem test_wf_ext_read_has_no_datum : (Instr.ext8000 false 0#13 1#8).wf = false ∧ (Instr.extC000 false 0#14 1#8).wf = false
    ∧ (Instr.ext8000 true 0#13 1#8).wf = true := by decide

/-! ## One step each -/

theorem test_rom_reads : -- V40.3
    (issue 0x0400000#25 { cart .mbc5 8 0 false with rom := [(0, 1#8), (0x4000, 5#8)] }).answer = .byte 5#8 ∧
    (issue 0x0000000#25 { cart .mbc5 8 0 false with rom := [(0, 1#8), (0x4000, 5#8)] }).answer = .byte 1#8 := by decide

theorem test_ram_window : -- V40.1
    (issue 0x0A00000#25 { cart .mbc5 4 2 false with ram := [(0, 0xA0#8)] }).answer = .byte 0xFF#8 ∧
    (issue 0x1BFFF13#25 (withMapper ⟨1#16, 1#8, true, false, 0#2⟩ (cart .mbc5 4 2 false))).ram = [(0x3FFF, 0x13#8)] ∧
    (issue 0x1A00011#25 (cart .mbc5 4 2 false)).ram = [] := by decide

theorem test_ram_write_keeps_canonical_form : -- storing the blank byte removes the entry
    (issue 0x1A00000#25 { withMapper ⟨1#16, 0#8, true, false, 0#2⟩ (cart .mbc5 4 2 false) with ram := [(0, 1#8)] }).ram = [] := by
  decide

theorem test_no_ram : -- V40.2
    (issue 0x0A00000#25 (withMapper ⟨1#16, 0#8, true, false, 0#2⟩ (cart .mbc1 4 0 false))).answer = .byte 0xFF#8 := by decide

theorem test_rtc_latch : -- V41.4, V41.5
    (issue 0x1600001#25 (atTime 26006399#32 cMbc3)).rtc = ⟨0#32, 0#32, 59#8, 59#8, 23#8, 44#8, 1#8, true, false, .s⟩ ∧
    (issue 0x1600001#25 (atTime 44236861#32 cMbc3)).rtc
      = ⟨44236800#32, 0#32, 1#8, 1#8, 0#8, 0#8, 0x80#8, true, false, .s⟩ := by decide

theorem test_rtc_write_fields : -- V41.10, V41.11
    (issue 0x1A0001E#25 (atTime 266525#32 (cMbc3At 8#8))).rtc.baseTime = 4294967271#32 ∧
    (issue 0x1A000C8#25 (cMbc3At 8#8)).rtc.baseTime = 4294967096#32 ∧
    (issue 0x1A000C8#25 (cMbc3At 8#8)).rtc.s = 200#8 := by decide

/-- A clock whose base time is what V41.10 reaches before the write. -/
def running (bank : RamBank) (base : Time) : State :=
  let s := atTime 266525#32 (cMbc3At bank)
  { s with rtc := { s.rtc with baseTime := base } }

theorem test_rtc_write_m_h_dl : -- V41.10
    (issue 0x1A00007#25 (running 9#8 4294967271#32)).rtc.baseTime = 4294966971#32 ∧
    (issue 0x1A00000#25 (running 0xA#8 4294966971#32)).rtc.baseTime = 6875#32 ∧
    (issue 0x1A00000#25 (running 0xB#8 6875#32)).rtc.baseTime = 266075#32 := by decide

theorem test_rtc_write_dh_day_bit : -- V41.12
    (issue 0x1A00081#25 (atTime 86400#32 (cMbc3At 0xC#8))).rtc.baseTime = 4272848896#32 := by decide

theorem test_rtc_halt_and_resume : -- V41.8
    (issue 0x1A00040#25 (atTime 100#32 (cMbc3At 0xC#8))).rtc.haltTime = 100#32 ∧
    (issue 0x1A00000#25 (atTime 600#32
      { cMbc3At 0xC#8 with rtc := ⟨0#32, 100#32, 0#8, 0#8, 0#8, 0#8, 0x40#8, false, true, .dh⟩ })).rtc.baseTime
      = 500#32 := by decide

theorem test_rtc_read : -- R174: the latched copy, whatever the time
    (issue 0x0B12300#25 { cMbc3At 8#8 with rtc := ⟨0#32, 0#32, 59#8, 1#8, 2#8, 3#8, 4#8, false, true, .s⟩ }).answer
      = .byte 59#8 ∧
    (issue 0x0A00000#25 { cMbc3At 0xC#8 with rtc := ⟨0#32, 0#32, 59#8, 1#8, 2#8, 3#8, 4#8, false, true, .dh⟩ }).answer
      = .byte 4#8 := by decide

theorem test_tx_mapper_registers : -- V49.2, V49.1
    (issue 0x0A00100#25 cTpp1).answer = .byte 0xFF#8 ∧ (issue 0x0A00200#25 cTpp1).answer = .byte 0x83#8 ∧
    (issue 0x0A00300#25 cTpp1).answer = .byte 0xF0#8 := by decide

theorem test_tx_write : -- S5b, V49.5: not a way to write MR2
    (issue 0x1A00121#25 (cTpp1At 3#2)).tx.h = 0x21#8 ∧ (issue 0x1A00209#25 cTpp1).mapper.rambank = 0x83#8 := by decide

/-- A TPP1 clock. -/
def cTxClock (t base halt : Time) (w h m s : Byte) (running : Bool) : State :=
  { atTime t (cTpp1At 3#2) with tx := ⟨base, halt, w, h, m, s, 0#2, 3#2, 0x0C#8, true, running, false⟩ }

theorem test_tx_latch : -- V42.1
    (issue 0x1000310#25 (cTxClock 90061#32 0#32 0#32 0#8 0#8 0#8 0#8 true)).tx
      = ⟨0#32, 0#32, 0#8, 0x21#8, 1#8, 1#8, 0#2, 3#2, 0x0C#8, true, true, false⟩ := by decide

theorem test_tx_overflow : -- R204: one period
    (issue 0x1000310#25 (cTxClock 154828801#32 0#32 0#32 0#8 0#8 0#8 0#8 true)).tx
      = ⟨154828800#32, 0#32, 0#8, 0#8, 0#8, 1#8, 0#2, 3#2, 0x0C#8, true, true, true⟩ := by decide

theorem test_tx_settime : -- S5b, S5c
    (issue 0x1000311#25 (cTxClock 1000000#32 0#32 0#32 1#8 0x21#8 2#8 3#8 false)).tx.baseTime = 4294272373#32 ∧
    (issue 0x1000311#25 (cTxClock 1000000#32 0#32 0#32 1#8 0x21#8 2#8 3#8 true)).tx.baseTime = 305077#32 := by decide

theorem test_tx_halt_resume : -- R206, R207
    (issue 0x1000318#25 (cTxClock 700#32 0#32 0#32 0#8 0#8 0#8 0#8 true)).tx.haltTime = 700#32 ∧
    (issue 0x1000319#25 (cTxClock 1000#32 0#32 0#32 0#8 0#8 0#8 0#8 false)).tx.baseTime = 1000#32 := by decide

theorem test_tx_clrovf_rumble : -- R208, R209
    (issue 0x1000314#25 { cTpp1 with tx := { cTpp1.tx with overflow := true } }).tx.overflow = false ∧
    (issue 0x1000322#25 cTpp1).tx.rumble = 2#2 := by decide

theorem test_plain : -- V43.2, V43.1
    (issue 0x100000A#25 cPlain).win = ⟨0#16, 1#16, 0#8, true, true, false⟩ ∧
    (issue 0x100000B#25 cPlain).mapper.enableRam = false ∧
    issue 0x1200005#25 cPlain = { cPlain with answer := .done } := by decide

theorem test_mbc1_bank1 : -- S1
    (issue 0x1200000#25 (cart .mbc1 8 0 false)).win.rom = 1#16 ∧
    (issue 0x1200002#25 (cart .mbc1 8 0 false)).win.rom = 2#16 := by decide

theorem test_mbc1_bank2_and_mode : -- R242, R243: 0x7F becomes 0x3F; the mode write moves no window
    (issue 0x1400001#25 cMbc1).win.rom = 0x3F#16 ∧ (issue 0x1400001#25 cMbc1Ram).win.ram = 1#8 ∧
    (issue 0x1600000#25 cMbc1Ram).win = cMbc1Ram.win := by decide

theorem test_mbc1_bank1_ram_mode : -- R241: bits 6:5 are cleared; adjusted(0) = 1
    (issue 0x1200000#25 cMbc1Ram).mapper.rombank = 0#16 ∧ (issue 0x1200000#25 cMbc1Ram).win.rom = 1#16 := by decide

theorem test_m64 : -- S4b
    (issue 0x1400001#25 (withMapper ⟨1#16, 0#8, false, true, 0#2⟩ cM64)).win = ⟨0x10#16, 0x11#16, 0#8, false, false, false⟩ ∧
    (issue 0x1200000#25 cM64).win.rom = 1#16 ∧
    (issue 0x1600001#25 (withMapper ⟨0x21#16, 0#8, false, false, 0#2⟩ cM64)).win.rom0 = 0x10#16 := by decide

theorem test_mbc2 : -- R262, R263: four bits, no adjust; addr[8] = 0 is ignored
    (issue 0x12100F0#25 cMbc2).win.rom = 0#16 ∧ (issue 0x1200007#25 cMbc2).mapper.rombank = 1#16 ∧
    (issue 0x100000A#25 cMbc2).win.we = true := by decide

theorem test_mbc3_bank : -- R272, V41.13
    (issue 0x1200080#25 cMbc3).win.rom = 1#16 ∧ (issue 0x1400007#25 cMbc3).win.ram = 3#8 ∧
    (issue 0x140000C#25 cMbc3).rtc.index = .dh := by decide

theorem test_mbc3_no_clock : -- V46.3
    (issue 0x1400008#25 cMbc3NoClock).win.rtcEn = false ∧ (issue 0x1600001#25 cMbc3NoClock).rtc.lastLatch = false ∧
    (issue 0x100000A#25 cMbc3NoClock).win.re = true := by decide

theorem test_huc1 : -- R280 to R284
    (issue 0x1000000#25 cHuc1Ram).win = ⟨0#16, 0x3F#16, 2#8, true, false, false⟩ ∧
    (issue 0x1200041#25 cHuc1).win.rom = 0x81#16 ∧ (issue 0x1400001#25 cHuc1).win.rom = 0x7F#16 ∧
    (issue 0x1600001#25 cHuc1).win.ram = 2#8 := by decide

theorem test_mbc5 : -- V48.1, S3
    (issue 0x1200034#25 cMbc5).win.rom = 0x134#16 ∧ (issue 0x1300000#25 cMbc5).win.rom = 0xFF#16 ∧
    (issue 0x14000F3#25 cMbc5).win.ram = 3#8 ∧ (issue 0x1200000#25 (cart .mbc5 32 0 false)).win.rom = 0#16 := by decide

theorem test_tpp1_banks : -- V49.2, V49.3
    (issue 0x1000034#25 cTpp1).win.rom = 0xFF34#16 ∧ (issue 0x1000112#25 cTpp1).win.rom = 0x12FF#16 ∧
    (issue 0x1000041#25 (cart .tpp1 64 4 true)).win.rom = 1#16 ∧ (issue 0x1000281#25 cTpp1).win.ram = 1#8 := by decide

theorem test_tpp1_map_modes : -- V49.5, V49.6
    (issue 0x1000302#25 cTpp1).win = ⟨0#16, 0xFFFF#16, 3#8, true, false, false⟩ ∧
    (issue 0x1000303#25 cTpp1).win = ⟨0#16, 0xFFFF#16, 3#8, true, true, false⟩ ∧
    (issue 0x1000305#25 cTpp1).tx.curmap = 3#2 ∧
    (issue 0x1000305#25 (cart .tpp1 64 4 false)).win = ⟨0#16, 1#16, 0#8, false, false, false⟩ := by decide

theorem test_outside_and_ignored : -- V40.4, V49.7
    (issue 0x1C00012#25 cMbc5).answer = .external ∧ issue 0x1000301#25 cTpp1 = { cTpp1 with answer := .done } := by decide

theorem test_fetch_word : step (State.reset.withFetchWord 25 0x1000103) = exec (.tpp1Mr1 3#8) State.reset := rfl

/-! ## Witnesses: data that meet all hypotheses of a statement, for each of its clauses -/

theorem witness_DecodeOfEncode :
    (Instr.rtcWrDh 0xFF#8).wf = true ∧ (Instr.rtcWrDh 0xFF#8).selectedBy (modeRtc .dh) = true ∧
    (Instr.tpp1Mr3ign 0xFF#8).wf = true ∧ (Instr.tpp1Mr3ign 0xFF#8).selectedBy (modeOf .tpp1) = true ∧
    (Instr.ext8000 true 0x1FFF#13 0xFF#8).wf = true ∧
    (Instr.ext8000 true 0x1FFF#13 0xFF#8).selectedBy (modeOf .plain) = true := by decide

theorem witness_RowsExcludeEachOther :
    (Instr.tpp1Map0).selectedBy (modeOf .tpp1) = true ∧ (Instr.tpp1Map0).row.selects 0x1000300#25 = true ∧
    (Instr.tpp1Mr3ign 0#8).selectedBy (modeOf .tpp1) = true ∧ (Instr.tpp1Mr3ign 0#8).row.selects 0x1000300#25 = true ∧
    (Instr.rtcRdDh).selectedBy (modeRtc .dh) = true ∧ (Instr.rtcRdDh).row.selects 0x0A00000#25 = true ∧
    (Instr.txRdW).selectedBy (modeTx 3#2) = true ∧ (Instr.txRdW).row.selects 0x0A00000#25 = true := by
  decide

theorem witness_ControlWritesAreMirrored :
    (0x1200055#25).extractLsb' 23 2 = 0b10#2 ∧ 0x1200055#25 &&& 0x1F000FF#25 = 0x12FFF55#25 &&& 0x1F000FF#25 ∧
    (0x1210007#25).extractLsb' 23 2 = 0b10#2 ∧ 0x1210007#25 &&& 0x1E100FF#25 = 0x13FFF07#25 &&& 0x1E100FF#25 ∧
    (0x1000310#25).extractLsb' 23 2 = 0b10#2 ∧ 0x1000310#25 &&& 0x1C003FF#25 = 0x13FFF10#25 &&& 0x1C003FF#25 ∧
    (0x1600001#25).extractLsb' 23 2 = 0b10#2 ∧ 0x1600001#25 &&& 0x1E000FF#25 = 0x17FFF01#25 &&& 0x1E000FF#25 := by decide

theorem witness_StepRunsTheDecodedTransaction :
    Issued 0x1000103#25 [] (State.reset.withFetchWord 25 0x1000103) ∧
    Issued (encode (.tpp1Mr1 3#8)) [] { State.reset with queue := [.bus (encode (.tpp1Mr1 3#8))] } ∧
    (Instr.tpp1Mr1 3#8).wf = true ∧ (Instr.tpp1Mr1 3#8).selectedBy (decodeMode State.reset) = true ∧
    State.reset.live = true ∧
    { State.reset with queue := [.host .saveState, .clock 6#32] }.queue = .host .saveState :: [.clock 6#32] ∧
    { State.reset with queue := [.clock 5#32, .clock 6#32] }.queue = .clock 5#32 :: [.clock 6#32] ∧ State.reset.queue = [] :=
  ⟨⟨rfl, rfl⟩, ⟨rfl, rfl⟩, by decide, by decide, rfl, rfl, rfl, rfl⟩

theorem witness_EveryTransactionCompletes :
    Invariant (cMbc5.withFetchWord 25 0x1BFFF13) ∧ Issued 0x1BFFF13#25 [] (cMbc5.withFetchWord 25 0x1BFFF13) := by
  obtain ⟨c, m, r, x, a, o, w, -⟩ := inv_cMbc5
  exact ⟨⟨c, m, r, x, a, o, by decide, by intro r hr; simp [State.withFetchWord, show cMbc5.queue = [] from rfl] at hr; subst hr; intro snap h; simp at h⟩,
    ⟨rfl, rfl⟩⟩

theorem witness_WindowTranslation :
    Invariant cMbc5 ∧ cMbc5.win.re = true ∧ cMbc5.win.rtcEn = false ∧ cMbc5.cfg.rambanks ≠ 0 ∧
    (modeOf .mbc5).rtcEn = false ∧ (0x3FFF#16).toNat < 0x4000 ∧ 0x4000 ≤ (0x4000#16).toNat ∧ (0x7FFF#16).toNat < 0x8000 ∧
    0xA000 ≤ (0xA000#16).toNat ∧ (0xBFFF#16).toNat < 0xC000 := ⟨inv_cMbc5, by decide⟩

theorem witness_RamWindowRead :
    (Invariant cPlain ∧ cPlain.win.re = false) ∧
    (Invariant cTpp1 ∧ cTpp1.win.re = true ∧ cTpp1.win.rtcEn = true ∧ cTpp1.mapper.mapmode = 0#2) ∧
    (Invariant (cTpp1At 3#2) ∧ (cTpp1At 3#2).win.rtcEn = true ∧ (cTpp1At 3#2).mapper.mapmode = 3#2) ∧
    (Invariant (cMbc3At 8#8) ∧ (cMbc3At 8#8).win.re = true ∧ (cMbc3At 8#8).win.rtcEn = true) ∧
    (Invariant (cMbc3At 0xC#8) ∧ (cMbc3At 0xC#8).win.rtcEn = true) ∧
    (Invariant cMbc5 ∧ cMbc5.win.re = true ∧ cMbc5.win.rtcEn = false ∧ cMbc5.cfg.rambanks ≠ 0) ∧
    (Invariant cMbc1Ram ∧ cMbc1Ram.win.ram = 3#8) :=
  ⟨⟨inv_cPlain, by decide⟩, ⟨inv_cTpp1, by decide⟩, ⟨inv_cTpp1At3, by decide⟩, ⟨inv_cMbc3At8, by decide⟩,
    ⟨inv_cMbc3AtC, by decide⟩, ⟨inv_cMbc5, by decide⟩, ⟨inv_cMbc1Ram, by decide⟩⟩

/-- An open RAM window without RAM. -/
def cNoRam : State := withMapper ⟨1#16, 0#8, true, false, 0#2⟩ (cart .mbc5 4 0 false)

theorem witness_RamWindowWrite :
    (Invariant cPlain ∧ cPlain.win.we = false) ∧
    (Invariant (cTpp1At 3#2) ∧ (cTpp1At 3#2).win.we = true ∧ (cTpp1At 3#2).win.rtcEn = true ∧
      (cTpp1At 3#2).cfg.variant = .tpp1) ∧
    (Invariant (cMbc3At 8#8) ∧ (cMbc3At 8#8).win.we = true ∧ (cMbc3At 8#8).win.rtcEn = true ∧
      (cMbc3At 8#8).cfg.variant ≠ .tpp1) ∧
    (Invariant cNoRam ∧ cNoRam.win.we = true ∧ cNoRam.win.rtcEn = false ∧ cNoRam.cfg.rambanks = 0) ∧
    (Invariant (cTpp1At 2#2) ∧ (cTpp1At 2#2).win.we = true ∧ (cTpp1At 2#2).win.rtcEn = false ∧
      (cTpp1At 2#2).cfg.rambanks ≠ 0) :=
  ⟨⟨inv_cPlain, by decide⟩, ⟨inv_cTpp1At3, by decide⟩, ⟨inv_cMbc3At8, by decide⟩, ⟨invariant_of rfl (by decide), by decide⟩,
    ⟨inv_cTpp1At2, by decide⟩⟩

/-- `cMbc5` after a store at the last byte of its bank. -/
def cStored : State := { cMbc5 with ram := [(0x1FFFF, 0x13#8)], answer := .done }

theorem witness_StoredByteIsReadBack :
    (Invariant cMbc5 ∧ cMbc5.win.we = true ∧ cMbc5.win.rtcEn = false ∧ cMbc5.cfg.rambanks ≠ 0) ∧
    exec (.wrXram 0x1FFF#13 0x13#8) cMbc5 = .next cStored ∧
    (Invariant cStored ∧ cStored.cfg = cMbc5.cfg ∧ cStored.win.re = true ∧ cStored.win.rtcEn = false ∧
      cStored.win.ram = cMbc5.win.ram) ∧
    (Invariant (withMapper ⟨1#16, 0#8, true, false, 0#2⟩ cStored) ∧
      (withMapper ⟨1#16, 0#8, true, false, 0#2⟩ cStored).ram = cStored.ram ∧
      (withMapper ⟨1#16, 0#8, true, false, 0#2⟩ cStored).win.ram ≠ cMbc5.win.ram) :=
  ⟨⟨inv_cMbc5, by decide⟩, of_nextOf (by decide), ⟨invariant_of rfl (by decide), by decide⟩, ⟨invariant_of rfl (by decide), by decide⟩⟩

theorem witness_ReadsChangeNothing :
    Issued 0x0A00000#25 [] (cTpp1.withFetchWord 25 0x0A00000) ∧ tRw 0x0A00000#25 = false ∧
    step (cTpp1.withFetchWord 25 0x0A00000) = .next { cTpp1 with answer := .byte 0xFF#8 } :=
  ⟨⟨rfl, rfl⟩, by decide, of_nextOf (by decide)⟩

theorem witness_RomImageIsImmutable :
    (cMbc5.withFetchWord 25 0x1BFFF13).queue = .bus 0x1BFFF13#25 :: [] ∧
    step (cMbc5.withFetchWord 25 0x1BFFF13) = .next cStored ∧
    (∀ bytes fd mc, Request.bus 0x1BFFF13#25 ≠ .host (.loadRom bytes fd mc)) ∧ Request.bus 0x1BFFF13#25 ≠ .host .tearDown :=
  ⟨rfl, of_nextOf (by decide), by intros; nofun, by nofun⟩

theorem witness_OutsideTransactionsTouchNothing :
    (0x8000 ≤ (tAddr 0x0800000#25).toNat ∧ (tAddr 0x09FFF00#25).toNat < 0xA000) ∧ 0xC000 ≤ (tAddr 0x0C00000#25).toNat ∧
    0xC000 ≤ (tAddr 0x1FFFF00#25).toNat := by decide

theorem witness_StateSelectedRowsAgree :
    Invariant (cMbc3At 0xC#8) ∧ (0x0BFFF00#25).extractLsb' 21 4 = 0b0101#4 ∧ (0x1A00040#25).extractLsb' 21 4 = 0b1101#4 ∧
    (cMbc3At 0xC#8).cfg.rtcWired = true ∧ (cMbc3At 0xC#8).rtc.active = true := ⟨inv_cMbc3AtC, by decide⟩

theorem witness_RtcRegisterReads :
    (modeRtc .dh).variant = .mbc3 ∧ (modeRtc .dh).rtcWired = true ∧ (modeRtc .dh).re = true ∧ (modeRtc .dh).rtcEn = true ∧
    (0x0BFFF00#25).extractLsb' 21 4 = 0b0101#4 ∧
    Instr.rtcRdDh ∈ [Instr.rtcRdS, .rtcRdM, .rtcRdH, .rtcRdDl, .rtcRdDh] := by decide

/-- A halted MBC3 clock that stands one second before its period ends. -/
def cHalted : State := { cMbc3 with rtc := ⟨0#32, 44236799#32, 0#8, 0#8, 0#8, 0#8, 0x40#8, false, false, .s⟩ }

theorem witness_RtcLatchOnEdge :
    cMbc3NoClock.cfg.rtcWired = false ∧ (cMbc3.cfg.rtcWired = true ∧ (0xFE#8).toNat % 2 = 0) ∧
    (cMbc3.rtc.lastLatch = false ∧ (0xFF#8).toNat % 2 = 1 ∧
      44236800 = ((if (atTime 44236800#32 cMbc3).rtc.dh.getLsbD 6 then (atTime 44236800#32 cMbc3).rtc.haltTime
        else now (atTime 44236800#32 cMbc3)) - (atTime 44236800#32 cMbc3).rtc.baseTime).toNat) ∧
    (cHalted.cfg.rtcWired = true ∧ cHalted.rtc.lastLatch = false ∧
      44236799 = ((if cHalted.rtc.dh.getLsbD 6 then cHalted.rtc.haltTime else now cHalted) - cHalted.rtc.baseTime).toNat) := by
  decide

theorem witness_RtcFieldWrites : 266525#32 = rtcElapsed (now (running 8#8 0#32)) (running 8#8 0#32).rtc := by decide

theorem witness_RtcDayHighWrite :
    44236799#32 = rtcElapsed (now cHalted) cHalted.rtc ∧ (0x40#8).getLsbD 6 = true := by decide

theorem witness_TxRegisterReads :
    (modeTx 0#2).variant = .tpp1 ∧ (modeTx 0#2).re = true ∧ (modeTx 0#2).rtcEn = true ∧ (modeTx 0#2).curmap = 0#2 ∧
    (modeTx 3#2).re = true ∧ (modeTx 3#2).rtcEn = true ∧ (modeTx 3#2).curmap = 3#2 ∧
    (0x0BFFF00#25).extractLsb' 21 4 = 0b0101#4 ∧ Config.resetCfg.txRunningReset = false := by decide

theorem witness_TxClockRegisterReads :
    Invariant cTpp1NoClock ∧ cTpp1NoClock.cfg.variant = .tpp1 ∧ cTpp1NoClock.mapper.mapmode = 3#2 ∧
    cTpp1NoClock.cfg.features.getLsbD 2 = false := ⟨inv_cTpp1NoClock, by decide⟩

theorem witness_TxClockRegisterWrites : (cTpp1At 3#2).tx.curmap = 3#2 ∧ cTpp1.tx.curmap ≠ 3#2 := by decide

/-- A running TPP1 clock one second before it overflows, its latched bytes at their highest values in range. -/
def cTxLast : State := cTxClock 154828799#32 0#32 0#32 255#8 0xD7#8 59#8 59#8 true

theorem witness_TxLatch :
    154828799 = ((if cTxLast.tx.running then now cTxLast else cTxLast.tx.haltTime) - cTxLast.tx.baseTime).toNat ∧
    (txElapsed (now cTxLast) cTxLast.tx).toNat < 154828800 := by decide

theorem witness_TxSettimeThenLatch :
    154828799 = cTxLast.tx.w.toNat * 604800 + cTxLast.tx.h.toNat / 32 * 86400 + cTxLast.tx.h.toNat % 32 * 3600
      + cTxLast.tx.m.toNat * 60 + cTxLast.tx.s.toNat ∧
    cTxLast.tx.h.toNat / 32 ≤ 6 ∧ cTxLast.tx.h.toNat % 32 ≤ 23 ∧ cTxLast.tx.m.toNat ≤ 59 ∧ cTxLast.tx.s.toNat ≤ 59 := by
  decide

theorem witness_TxHaltAndResume : cTxLast.tx.running = true ∧ cTpp1.tx.running = false := by decide

theorem witness_OverflowIsSticky :
    (0x1000314#25).extractLsb' 22 3 = 0b100#3 ∧ (0x1000314#25).extractLsb' 8 2 = 0b11#2 ∧
    (0x1000314#25).extractLsb' 0 8 = 0x14#8 ∧
    154828800 ≤ (txElapsed (now (atTime 154828800#32 cTxLast)) cTxLast.tx).toNat ∧
    (issue 0x1000310#25 (atTime 154828800#32 cTxLast)).tx.overflow = true ∧
    (issue 0x1000314#25 (issue 0x1000310#25 (atTime 154828800#32 cTxLast))).tx.overflow = false := by decide

theorem witness_RunningChangedOnlyByHaltAndResume :
    (issue 0x1000318#25 cTxLast).tx.running ≠ cTxLast.tx.running ∧ (issue 0x1000319#25 cTpp1).tx.running ≠ cTpp1.tx.running := by
  decide

theorem witness_RumbleLevel :
    (modeOf .tpp1).variant = .tpp1 ∧ (0x1000323#25).extractLsb' 22 3 = 0b100#3 ∧ (0x1000323#25).extractLsb' 8 2 = 0b11#2 ∧
    (0x1000323#25).extractLsb' 2 6 = 0b001000#6 ∧ (issue 0x1000323#25 cTpp1).tx.rumble ≠ cTpp1.tx.rumble := by decide

theorem witness_RamEnable :
    Instr.m64Ramen 0x0A#8 ∈ [Instr.plainRamen 0x0A#8, .mbc2Ramen 0x0A#8, .m64Ramen 0x0A#8] ∧ cM64.cfg.legal = true ∧
    Instr.mbc5Ramen 0xFA#8 ∈ [Instr.mbc1Ramen 0xFA#8, .mbc5Ramen 0xFA#8] ∧ cMbc5.cfg.legal = true ∧
    cHuc1.cfg.legal = true := by decide

theorem witness_Mbc3RamEnableAndBank :
    cMbc3.cfg.legal = true ∧
    (Instr.mbc3Ramen 0x0A#8 = .mbc3Ramen 0x0A#8 ∧ true = decide ((0x0A#8).toNat % 16 = 10) ∧ 0x00#8 = cMbc3.mapper.rambank) ∧
    (Instr.mbc3Ramb 0x0C#8 = .mbc3Ramb 0x0C#8 ∧ false = cMbc3.mapper.enableRam) ∧ cMbc3.cfg.rtcWired = true ∧
    cMbc3NoClock.cfg.legal = true ∧ cMbc3NoClock.cfg.rtcWired = false := by decide

theorem witness_Huc1BankAndModeWrites :
    Invariant cHuc1 ∧ cHuc1.cfg.variant = .huc1 ∧ 0x3F = (0xFF#8).toNat % 64 ∧ 3 = (0xFF#8).toNat % 4 ∧
    2 = cHuc1.mapper.rambank.toNat ∧ 0x3F = cHuc1.mapper.rombank.toNat ∧ false = cHuc1.mapper.ramBankMode ∧
    Invariant cHuc1Ram ∧ cHuc1Ram.cfg.variant = .huc1 ∧ true = cHuc1Ram.mapper.ramBankMode :=
  ⟨inv_cHuc1, by decide, by decide, by decide, by decide, by decide, by decide, inv_cHuc1Ram, by decide⟩

theorem witness_Mbc1BankWrites :
    Invariant cMbc1 ∧ cMbc1.cfg.variant = .mbc1 ∧ cMbc1.mapper.ramBankMode = false ∧
    0x7F = (if cMbc1.mapper.ramBankMode then 0 else cMbc1.mapper.rombank.toNat / 32 * 32) + (0xFF#8).toNat % 32 ∧
    0x7F = (0xFF#8).toNat % 4 * 32 + cMbc1.mapper.rombank.toNat % 32 ∧
    Invariant cMbc1Ram ∧ cMbc1Ram.cfg.variant = .mbc1 ∧ cMbc1Ram.mapper.ramBankMode = true ∧
    0 = (if cMbc1Ram.mapper.ramBankMode then 0 else cMbc1Ram.mapper.rombank.toNat / 32 * 32) + (0x20#8).toNat % 32 :=
  ⟨inv_cMbc1, by decide, by decide, by decide, by decide, inv_cMbc1Ram, by decide⟩

theorem witness_Mbc1ModeMovesNoWindow :
    (modeOf .mbc1).variant = .mbc1 ∧ (0x17FFF01#25).extractLsb' 21 4 = 0b1011#4 ∧ (0x01#8).toNat % 2 = 1 ∧
    (0xFE#8).toNat % 2 = 0 := by decide

theorem witness_M64BankAndModeWrites :
    Invariant cM64Multi ∧ cM64Multi.cfg.variant = .mbc1m64 ∧ true = cM64Multi.mapper.ramBankMode ∧
    0x60 = cM64Multi.mapper.rombank.toNat / 32 * 32 + (0x20#8).toNat % 32 ∧
    0x1F = (0x04#8).toNat % 4 * 32 + cM64Multi.mapper.rombank.toNat % 32 ∧
    Invariant cM64 ∧ cM64.cfg.variant = .mbc1m64 ∧ 1 = cM64.mapper.rombank.toNat ∧ true = decide ((1#8).toNat % 2 = 1) :=
  ⟨inv_cM64Multi, by decide, by decide, by decide, by decide, inv_cM64, by decide⟩

theorem witness_Mbc2RomBank :
    (modeOf .mbc2).variant = .mbc2 ∧ (0x13FFF00#25).extractLsb' 21 4 = 0b1001#4 ∧ (0x13FFF00#25).getLsbD 16 = true ∧
    Invariant cMbc2 ∧ cMbc2.cfg.variant = .mbc2 := ⟨by decide, by decide, by decide, inv_cMbc2, by decide⟩

theorem witness_Mbc3RomBank :
    (modeOf .mbc3).variant = .mbc3 ∧ (0x13FFF80#25).extractLsb' 21 4 = 0b1001#4 ∧ Invariant cMbc3 ∧
    cMbc3.cfg.variant = .mbc3 := ⟨by decide, by decide, inv_cMbc3, by decide⟩

theorem witness_IgnoredWritesChangeNothing :
    Instr.tpp1Ign 9#8 ∈ [Instr.plainIgnR1 9#8, .plainIgnR23 9#8, .mbc2Ign0100 9#8, .mbc2Ign2000 9#8, .mbc2IgnHi 9#8,
      .mbc5Ign 9#8, .tpp1Mr3ign 9#8, .tpp1Ign 9#8] ∧
    (0x2000 ≤ (0x2000#16).toNat ∧ (0x7FFF#16).toNat < 0x8000) ∧
    (0x20FF#16 &&& 0x6100#16 ≠ 0x0000#16 ∧ 0x20FF#16 &&& 0x6100#16 ≠ 0x2100#16) ∧
    (0x0100#16 &&& 0x6100#16 ≠ 0x0000#16 ∧ 0x0100#16 &&& 0x6100#16 ≠ 0x2100#16) ∧ 0x6000 ≤ (0x6000#16).toNat ∧
    0x4000 ≤ (0x4000#16).toNat ∧ ((0x3FFF#16).toNat < 0x4000 ∧ (0x3FFF#16).toNat % 4 = 3 ∧
      (0x24#8).toNat ∉ [0x00, 0x02, 0x03, 0x05, 0x10, 0x11, 0x14, 0x18, 0x19, 0x20, 0x21, 0x22, 0x23]) := by decide

theorem witness_Mbc5BankWrites :
    Invariant cMbc5 ∧ cMbc5.cfg.variant = .mbc5 ∧ 0x100 = cMbc5.mapper.rombank.toNat / 256 * 256 + (0#8).toNat ∧
    0xFF = (0xFE#8).toNat % 2 * 256 + cMbc5.mapper.rombank.toNat % 256 := ⟨inv_cMbc5, by decide⟩

theorem witness_Tpp1BankRegisterWrites :
    Invariant cTpp1 ∧ cTpp1.cfg.variant = .tpp1 ∧ 0xFF00 = cTpp1.mapper.rombank.toNat / 256 * 256 + (0#8).toNat ∧
    0xFF = (0#8).toNat * 256 + cTpp1.mapper.rombank.toNat % 256 := ⟨inv_cTpp1, by decide⟩

theorem witness_Tpp1MapModeCommands :
    (0x13FFF05#25).extractLsb' 22 3 = 0b100#3 ∧ (0x13FFF05#25).extractLsb' 8 2 = 0b11#2 ∧
    (0x13FFF05#25).extractLsb' 0 8 = 0x05#8 ∧ (0x1000300#25).extractLsb' 0 8 = 0x00#8 ∧
    (0x1000302#25).extractLsb' 0 8 = 0x02#8 ∧ (0x1000303#25).extractLsb' 0 8 = 0x03#8 ∧
    Invariant cTpp1 ∧ cTpp1.cfg.variant = .tpp1 ∧ true = cTpp1.cfg.features.getLsbD 2 ∧
    Invariant cTpp1NoClock ∧ false = cTpp1NoClock.cfg.features.getLsbD 2 :=
  ⟨by decide, by decide, by decide, by decide, by decide, by decide, inv_cTpp1, by decide, by decide, inv_cTpp1NoClock,
    by decide⟩

theorem witness_EveryResetMeetsInvariant : cM64.cfg.legal = true ∧ Memory.Fits romBlank cM64.cfg.romSize [(0xFFFFF, 1#8)] :=
  ⟨by decide, ⟨by decide, by decide⟩⟩

theorem witness_StepKeepsInvariant :
    Invariant cMbc3 ∧ step cMbc3 = .next cMbc3 ∧ Invariant { cMbc3 with queue := [.host (.loadState (snapshotOf cMbc3))] } ∧
    step { cMbc3 with queue := [.host (.loadState (snapshotOf cMbc3))] } = .next { cMbc3 with answer := .done } := by
  obtain ⟨c, m, r, x, a, o, w, -⟩ := inv_cMbc3
  refine ⟨inv_cMbc3, rfl, ⟨c, m, r, x, a, o, by decide, fun q hq snap hs => ?_⟩, of_nextOf (by decide)⟩
  rw [List.mem_singleton.mp hq] at hs
  injection hs with hs
  injection hs with hs
  rw [← hs]
  exact ⟨m, r, x, a⟩

theorem witness_WindowsStayInsideImages : Invariant cTpp1 ∧ 0 < cTpp1.cfg.rambanks ∧ Invariant cM64Multi :=
  ⟨inv_cTpp1, by decide, inv_cM64Multi⟩

theorem witness_WindowsAreFunctionOfRegisters :
    Invariant (cMbc3At 8#8) ∧ Invariant { cMbc3At 8#8 with ram := [(0, 1#8)] } ∧ (cMbc3At 8#8).cfg.rtcWired = true :=
  ⟨inv_cMbc3At8, invariant_of rfl (by decide), by decide⟩

theorem witness_NowOnlyInClockOperations :
    (issue 0x1600001#25 cMbc3).nowCalls = cMbc3.nowCalls + 1 ∧ (issue 0x1A00040#25 (cMbc3At 0xC#8)).nowCalls = 1 ∧
    (issue 0x1000319#25 cTpp1).nowCalls = 1 ∧ (issue 0x1000318#25 cTxLast).nowCalls = 1 ∧
    (issue 0x1000310#25 cTxLast).nowCalls = 1 ∧ (issue 0x1000311#25 cTxLast).nowCalls = 1 ∧
    ((nextOf (exec (.wrXram 0#13 0x1E#8) (cMbc3At 8#8))).map (·.nowCalls) = some 1 ∧ (cMbc3At 8#8).nowCalls = 0 ∧
      (cMbc3At 8#8).win.we = true ∧ (cMbc3At 8#8).win.rtcEn = true ∧ (cMbc3At 8#8).cfg.variant ≠ .tpp1) := by decide

/-- A file of the smallest size with the given cartridge type and the header bytes `0x149` to `0x153`. -/
def romFile (type : Byte) (tail : List Byte) : List Byte := List.replicate 0x147 0#8 ++ [type, 0#8] ++ tail

def tailPlain : List Byte := [3#8, 0#8, 0#8, 0#8, 0#8, 0#8, 0#8, 0#8, 0#8, 0#8, 0#8]
def tailTpp1 : List Byte := [0xC1#8, 0x65#8, 1#8, 0#8, 0#8, 0#8, 0#8, 0#8, 0#8, 9#8, 0x0C#8]

theorem header_romFile (type : Byte) (tail : List Byte) (k : Nat) :
    header (romFile type tail) (0x147 + k) = (type :: 0#8 :: tail).getD k 0#8 := by
  unfold header romFile
  rw [List.append_assoc, List.getD_append_right _ _ _ _ (by rw [List.length_replicate]; omega), List.length_replicate,
    Nat.add_sub_cancel_left]
  rfl

theorem length_romFile (type : Byte) (tail : List Byte) : (romFile type tail).length = 0x149 + tail.length := by
  rw [romFile, List.length_append, List.length_append, List.length_replicate]
  rfl

theorem type_romFile (type : Byte) (tail : List Byte) : header (romFile type tail) 0x147 = type := header_romFile type tail 0

theorem checkRom_romFile (type : Byte) (tail : List Byte) (le : 0x0B ≤ tail.length) :
    checkRom (romFile type tail) = classify (romFile type tail) := by
  unfold checkRom
  rw [if_neg (by rw [length_romFile]; omega)]

theorem checkRom_mbc3 : checkRom (romFile 0x10#8 tailPlain) = .ok .mbc3 := by
  rw [checkRom_romFile _ _ (by decide)]
  rw [classify, type_romFile]
  decide

theorem checkRom_tpp1 : checkRom (romFile 0xBC#8 tailTpp1) = .ok .tpp1 := by
  rw [checkRom_romFile _ _ (by decide)]
  rw [classify, type_romFile, show header (romFile 0xBC#8 tailTpp1) 0x149 = 0xC1#8 from header_romFile _ _ 2,
    show header (romFile 0xBC#8 tailTpp1) 0x14A = 0x65#8 from header_romFile _ _ 3]
  decide

theorem checkRom_unsupported : checkRom (romFile 0xFE#8 tailPlain) = .error .unsupportedMapper := by
  rw [checkRom_romFile _ _ (by decide)]
  rw [classify, type_romFile]
  decide

/-- An MBC2 file with the RAM size code `code`. -/
def romMbc2 (code : Byte) : List Byte := romFile 0x06#8 (code :: List.replicate 10 0#8)

theorem ramCode_romMbc2 (code : Byte) : (romMbc2 code).getD 0x149 0#8 = code := header_romFile _ _ 2

theorem checkRom_romMbc2 (code : Byte) : checkRom (romMbc2 code) = .ok .mbc2 := by
  rw [romMbc2, checkRom_romFile _ _ (by rw [List.length_cons, List.length_replicate]), classify, type_romFile,
    if_neg (by decide), if_neg (by decide), if_pos (by decide)]

/-- R6, R334: code 0 of an MBC2 forces one bank, and no code leaves it without RAM. -/
theorem test_mbc2_ram (code : Byte) :
    (cfgOf .mbc2 (romMbc2 0#8) true State.reset.cfg).rambanks = 1 ∧
    (cfgOf .mbc2 (romMbc2 code) true State.reset.cfg).rambanks ≠ 0 := by
  refine ⟨?_, ?_⟩
  · show ramBanksOfCode .mbc2 ((romMbc2 0#8).getD 0x149 0#8) = 1
    rw [ramCode_romMbc2]
    rfl
  · exact ramBanksOfCode_mbc2_ne_zero _

/-- The state with a load of the file as its only request. -/
def loading (bytes : List Byte) (s : State) : State := { s with queue := [.host (.loadRom bytes false true)] }

theorem witness_LoadRomResetsTheBlock :
    (loading (romFile 0x10#8 tailPlain) State.reset).queue = .host (.loadRom (romFile 0x10#8 tailPlain) false true) :: [] ∧
    checkRom (romFile 0x10#8 tailPlain) = .ok .mbc3 ∧ checkRom (romFile 0xBC#8 tailTpp1) = .ok .tpp1 :=
  ⟨rfl, checkRom_mbc3, checkRom_tpp1⟩

theorem witness_LoadedConfiguration :
    checkRom (romFile 0x10#8 tailPlain) = .ok .mbc3 ∧ checkRom (romFile 0xBC#8 tailTpp1) = .ok .tpp1 ∧
    (cfgOf .tpp1 (romFile 0xBC#8 tailTpp1) true State.reset.cfg).variant = .tpp1 ∧
    (∀ code ∈ [0#8, 1#8, 2#8, 3#8, 4#8, 5#8, 6#8, 0xFF#8],
      checkRom (romMbc2 code) = .ok .mbc2 ∧ (romMbc2 code).getD 0x149 0#8 = code) :=
  ⟨checkRom_mbc3, checkRom_tpp1, rfl, fun code _ => ⟨checkRom_romMbc2 code, ramCode_romMbc2 code⟩⟩

theorem witness_FailedLoadChangesNothing :
    (loading (romFile 0xFE#8 tailPlain) State.reset).queue = .host (.loadRom (romFile 0xFE#8 tailPlain) false true) :: [] ∧
    step (loading (romFile 0xFE#8 tailPlain) State.reset)
      = .next { State.reset with answer := .loadFailed .unsupportedMapper } ∧
    ([] : List Byte).length < 0x154 := by
  refine ⟨rfl, ?_, by decide⟩
  have e : step (loading (romFile 0xFE#8 tailPlain) State.reset)
      = loadRom (romFile 0xFE#8 tailPlain) false true State.reset := rfl
  rw [e, loadRom, checkRom_unsupported]
  rfl

/-- A cartridge with one bank of RAM and a clock, and one with a clock but no RAM. -/
def cSaved : State := { cart .mbc3 4 1 true with ram := [(0, 0x11#8)], rtc := { Rtc.reset with baseTime := 0x12345678#32 } }
def cNoRamClock : State := cart .tpp1 4 0 true

/-- A cartridge with RAM and a clock but without a battery: its save-data is the base time alone. -/
def cUnbuffered : State :=
  { cart .mbc3 4 1 true with cfg := { (cart .mbc3 4 1 true).cfg with battery := false }, ram := [(0, 0x11#8)] }

theorem inv_cUnbuffered : Invariant cUnbuffered := invariant_of rfl (by decide)

theorem witness_Savedata :
    (cSaved.cfg.battery = true ∧ cSaved.cfg.hasRtc = true ∧ cSaved.cfg.variant ≠ .tpp1 ∧
      cSaved.cfg.rambanks * 0x2000 + 4 ≤ (List.replicate 8196 0#8).length) ∧
    (cNoRamClock.cfg.hasRtc = true ∧ cNoRamClock.cfg.variant = .tpp1 ∧
      cNoRamClock.cfg.rambanks * 0x2000 + 4 ≤ [1#8, 2#8, 3#8, 4#8].length) ∧
    (cUnbuffered.cfg.battery = false ∧ cUnbuffered.cfg.hasRtc = true ∧ 0 + 4 ≤ [1#8, 2#8, 3#8, 4#8].length ∧
      cUnbuffered.cfg.rambanks * 0x2000 = 0x2000 ∧ 0 = (if cUnbuffered.cfg.battery then 0x2000 else 0)) ∧
    Invariant cSaved ∧ Invariant cUnbuffered ∧ cPlain.cfg.hasRtc = false :=
  ⟨⟨by decide, by decide, by decide, by rw [List.length_replicate]; decide⟩, by decide, by decide,
    invariant_of rfl (by decide), inv_cUnbuffered, by decide⟩

/-- R341, R343: without a battery the base time stands at offset 0 and the RAM is left alone. -/
theorem test_savedata_without_battery :
    runLiveHostOp (.loadSavedata [0x78#8, 0x56#8, 0x34#8, 0x12#8]) cUnbuffered
      = .next { cUnbuffered with rtc := { cUnbuffered.rtc with baseTime := 0x12345678#32 }, answer := .done } ∧
    saveBlob { cUnbuffered with rtc := { cUnbuffered.rtc with baseTime := 0x12345678#32 } }
      = [0x78#8, 0x56#8, 0x34#8, 0x12#8] :=
  ⟨of_nextOf (by decide), by decide⟩

/-- R341: the four bytes after the RAM part, least significant first. -/
theorem test_savedata_base_time :
    runLiveHostOp (.loadSavedata [0x78#8, 0x56#8, 0x34#8, 0x12#8]) cNoRamClock
      = .next { cNoRamClock with tx := { cNoRamClock.tx with baseTime := 0x12345678#32 }, answer := .done } ∧
    runLiveHostOp (.loadSavedata [0x78#8, 0x56#8, 0x34#8]) cNoRamClock = .refused .shortBlob :=
  ⟨of_nextOf (by decide), rfl⟩

theorem witness_SnapshotRoundTrip :
    Invariant cSaved ∧ (cart .mbc3 4 1 true).cfg = cSaved.cfg ∧ (cart .mbc3 4 1 true).rom = cSaved.rom ∧
    cart .mbc3 4 1 true ≠ cSaved := ⟨invariant_of rfl (by decide), by decide⟩

theorem witness_DebugQueries :
    cM64.cfg.variant = .mbc1m64 ∧ cTpp1.cfg.variant ≠ .mbc1m64 ∧ (0 : Nat) ≠ 1 ∧ (4 : Nat) ≠ 3 := by decide

theorem witness_HostRefusals :
    [1#8].length < (if cSaved.cfg.battery then cSaved.cfg.rambanks * 0x2000 else 0) + (if cSaved.cfg.hasRtc then 4 else 0) ∧
    (snapshotOf cMbc3).origin ≠ cMbc5.cfg ∧
    { cMbc5 with queue := [.host .tearDown] }.queue = .host .tearDown :: [] ∧ cMbc5.live = true ∧
    { cMbc5 with live := false, queue := [.bus 0#25] }.queue = .bus 0#25 :: [] ∧
    (∀ bytes fd mc, Request.bus 0#25 ≠ .host (.loadRom bytes fd mc)) ∧ (∀ v, Request.bus 0#25 ≠ .clock v) :=
  ⟨by decide, by decide, by decide, by decide, by decide, by intros; nofun, by intros; nofun⟩

end Sys2Proof.Machine
end

section
/-! The rules of a step and of the host operations: which request is run, and what a host operation other than a load and
tear-down leaves of the cartridge. -/

namespace Sys2Proof.Machine

/-! ## Taking a request -/

theorem step_of_queue_nil {s : State} (h : s.queue = []) : step s = .next s := by
  simp only [step, runNext, h]

theorem step_of_queue_cons {s : State} {r : Request} {rest : List Request} (h : s.queue = r :: rest) :
    step s = runRequest r { s with queue := rest } := by
  simp only [step, runNext, h]

theorem runBus_of_live {t : Word} {s : State} (h : s.live = true) : runBus t s = exec (decode (decodeMode s) t) s :=
  if_pos h

theorem runBus_next {t : Word} {s s' : State} (h : runBus t s = .next s') :
    s.live = true ∧ exec (decode (decodeMode s) t) s = .next s' := by
  cases hl : s.live with
  | true => exact ⟨rfl, runBus_of_live hl ▸ h⟩
  | false => simp [runBus, hl] at h

theorem runHostOp_of_live {op : HostOp} {s : State} (h : s.live = true) : runHostOp op s = runLiveHostOp op s := by
  simp only [runHostOp, h]

/-- A host operation that goes on runs as on a live block: after tear-down only a load goes on (R364). -/
theorem runHostOp_next {op : HostOp} {s t : State} (h : runHostOp op s = .next t) : runLiveHostOp op s = .next t := by
  cases hl : s.live with
  | true => exact runHostOp_of_live hl ▸ h
  | false =>
    unfold runHostOp at h
    rw [hl] at h
    cases op with
    | loadRom bytes forceDmg multicartCompat => exact h
    | _ => nomatch h

/-- A transaction at the head of the queue of a live block is decoded in the state it meets and run. -/
theorem Issued.step_eq {t : Word} {rest : List Request} {s : State} (h : Issued t rest s) :
    step s = exec (decode (decodeMode s) t) { s with queue := rest } := by
  obtain ⟨live, queue⟩ := h
  exact (step_of_queue_cons queue).trans (runBus_of_live live)

/-! ## The cartridge under host operations -/

/-- The configuration and the ROM image are the same. -/
structure SameCartridge (s t : State) : Prop where
  cfg : t.cfg = s.cfg
  rom : t.rom = s.rom

theorem SameCartridge.trans {s t u : State} (h : SameCartridge s t) (h' : SameCartridge t u) : SameCartridge s u :=
  ⟨h'.cfg.trans h.cfg, h'.rom.trans h.rom⟩

theorem SameCartridge.refl (s : State) : SameCartridge s s := ⟨rfl, rfl⟩

theorem SameCartridge.replied {s t : State} (h : SameCartridge s t) (a : Answer) : SameCartridge s (reply a t) :=
  ⟨h.cfg, h.rom⟩

theorem sameCartridge_importRam (bytes : List Byte) (s : State) : SameCartridge s (importRam bytes s) := by
  unfold importRam
  split <;> exact ⟨rfl, rfl⟩

theorem sameCartridge_setActiveBaseTime (v : Time) (s : State) : SameCartridge s (setActiveBaseTime v s) := by
  unfold setActiveBaseTime
  split <;> exact ⟨rfl, rfl⟩

theorem sameCartridge_importTime (bytes : List Byte) (s : State) : SameCartridge s (importTime bytes s) := by
  unfold importTime
  split
  · exact sameCartridge_setActiveBaseTime _ s
  · exact .refl s

theorem sameCartridge_sync_restore (snap : Snapshot) (s : State) : SameCartridge s (sync (restore snap s)) := by
  rw [sync_eq]
  exact ⟨rfl, rfl⟩

/-- An import that goes on found a blob that is long enough (R342). -/
theorem loadSavedata_next {bytes : List Byte} {s t : State} (h : loadSavedata bytes s = .next t) :
    blobLength s.cfg ≤ bytes.length ∧ t = reply .done (importTime bytes (importRam bytes s)) := by
  unfold loadSavedata at h
  split at h
  case isTrue => nomatch h
  case isFalse long =>
    injection h with h
    exact ⟨Nat.not_lt.mp long, h.symm⟩

/-- A restore that goes on had a snapshot of this cartridge (R350). -/
theorem loadState_next {snap : Snapshot} {s t : State} (h : loadState snap s = .next t) :
    snap.origin = s.cfg ∧ snap.originRom = s.rom ∧ t = reply .done (sync (restore snap s)) := by
  unfold loadState at h
  split at h
  case isTrue own =>
    injection h with h
    exact ⟨own.1, own.2, h.symm⟩
  case isFalse => nomatch h

/-- A query of a memory area that goes on only answers. -/
theorem getMemoryArea_next {id : Nat} {s t : State} (h : getMemoryArea id s = .next t) : ∃ a, t = reply a s := by
  unfold getMemoryArea at h
  split at h
  · injection h with h
    exact ⟨_, h.symm⟩
  split at h
  · injection h with h
    exact ⟨_, h.symm⟩
  split at h <;> nomatch h

/-- A query of `can_map_bank_at` answers, and outside MBC1M64 uses up one free value. -/
theorem canMapBankAt_next {addr : Addr} {bank : Nat} {s t : State} (h : canMapBankAt addr bank s = .next t) :
    ∃ b n, t = reply (.bool b) { s with freeUses := n } := by
  unfold canMapBankAt at h
  split at h <;> injection h with h
  · exact ⟨_, s.freeUses, h.symm⟩
  · exact ⟨_, _, h.symm⟩

/-- A host operation that is neither a load nor tear-down keeps the cartridge. -/
theorem runLiveHostOp_sameCartridge {op : HostOp} {s t : State} (h : runLiveHostOp op s = .next t)
    (noLoad : ∀ bytes fd mc, op ≠ .loadRom bytes fd mc) (noTearDown : op ≠ .tearDown) : SameCartridge s t := by
  cases op with
  | loadRom bytes forceDmg multicartCompat => exact absurd rfl (noLoad bytes forceDmg multicartCompat)
  | loadSavedata bytes =>
    obtain ⟨-, rfl⟩ := loadSavedata_next h
    exact ((sameCartridge_importRam bytes s).trans (sameCartridge_importTime bytes _)).replied .done
  | savedataLength | saveSavedata | saveState =>
    injection h with h
    exact h ▸ (SameCartridge.refl s).replied _
  | loadState snap =>
    obtain ⟨-, -, rfl⟩ := loadState_next h
    exact (sameCartridge_sync_restore snap s).replied .done
  | getMemoryArea id =>
    obtain ⟨a, rfl⟩ := getMemoryArea_next h
    exact (SameCartridge.refl s).replied a
  | canMapBankAt addr bank =>
    obtain ⟨b, n, rfl⟩ := canMapBankAt_next h
    exact ⟨rfl, rfl⟩
  | tearDown => exact absurd rfl noTearDown

/-- A request that is neither a load nor tear-down keeps the cartridge. -/
theorem runRequest_sameCartridge {r : Request} {s t : State} (h : runRequest r s = .next t)
    (noLoad : ∀ bytes fd mc, r ≠ .host (.loadRom bytes fd mc)) (noTearDown : r ≠ .host .tearDown) :
    SameCartridge s t := by
  cases r with
  | bus w =>
    have frame := exec_frame _ s t (runBus_next h).2
    exact ⟨frame.cfg, frame.rom⟩
  | host op =>
    refine runLiveHostOp_sameCartridge (runHostOp_next h) (fun bytes fd mc e => ?_) (fun e => ?_)
    · exact noLoad bytes fd mc (congrArg _ e)
    · exact noTearDown (congrArg _ e)
  | clock v =>
    injection h with h
    exact h ▸ ⟨rfl, rfl⟩

/-- Settles O13: a step runs the request at the head of the queue, and each request but a load and
tear-down keeps the cartridge. -/
theorem romImageIsImmutable : Obligations.RomImageIsImmutable := by
  intro s r rest s' queue next noLoad noTearDown
  rw [step_of_queue_cons queue] at next
  obtain ⟨cfg, rom⟩ := runRequest_sameCartridge next noLoad noTearDown
  exact ⟨cfg, rom, fun i => congrArg (Memory.read romBlank · i) rom⟩

end Sys2Proof.Machine
end

section
/-! When a transaction draws the host clock (spec/00_scope.md R10, spec/60_exceptions.md R360). -/

namespace Sys2Proof.Machine

/-- The rows that can invoke `now()`: the MBC3 latch and clock register writes, also through the RAM window, and the TPP1
commands LATCH, SETTIME, HALT and RESUME. -/
def isClockOperation (i : Instr) : Bool :=
  match i with
  | .wrXram _ _ | .rtcWrS _ | .rtcWrM _ | .rtcWrH _ | .rtcWrDl _ | .rtcWrDh _ | .mbc3Latch _
  | .tpp1Latch | .tpp1Settime | .tpp1Halt | .tpp1Resume => true
  | _ => false

/-- A transaction whose outcome is known leaves the count of that outcome. -/
theorem nowCalls_of_next {i : Instr} {s t u : State} {n : Nat} (e : exec i s = .next u) (hu : u.nowCalls = n)
    (h : exec i s = .next t) : t.nowCalls = n := by
  rw [e] at h
  injection h with h
  rwa [← h]

/-- No other row invokes `now()`. -/
theorem nowCalls_of_not_clockOperation {i : Instr} {s t : State} (other : isClockOperation i = false)
    (h : exec i s = .next t) : t.nowCalls = s.nowCalls := by
  cases i with
  | rdRom0 off => rw [readRom_next h]
  | rdRomx off => rw [readRom_next h]
  | rdXram off =>
    obtain ⟨v, rfl⟩ := exec_rdXram_next h
    rfl
  | wrXram | rtcWrS | rtcWrM | rtcWrH | rtcWrDl | rtcWrDh | mbc3Latch | tpp1Latch | tpp1Settime | tpp1Halt
  | tpp1Resume => nomatch other
  | txWrW data => exact nowCalls_of_next (exec_txWrW data s) rfl h
  | txWrH data => exact nowCalls_of_next (exec_txWrH data s) rfl h
  | txWrM data => exact nowCalls_of_next (exec_txWrM data s) rfl h
  | txWrS data => exact nowCalls_of_next (exec_txWrS data s) rfl h
  | mbc1Bank2 data =>
    cases mode : s.mapper.ramBankMode with
    | false => exact nowCalls_of_next (exec_mbc1Bank2_rom data s mode) rfl h
    | true => exact nowCalls_of_next (exec_mbc1Bank2_ram data s mode) rfl h
  | m64Bank1 data => exact nowCalls_of_next (exec_m64Bank1 data s) rfl h
  | m64Bank2 data => exact nowCalls_of_next (exec_m64Bank2 data s) rfl h
  | m64Mode data => exact nowCalls_of_next (exec_m64Mode data s) rfl h
  | mbc3Ramen data => exact nowCalls_of_next (exec_mbc3Ramen data s) rfl h
  | mbc3Ramb data => exact nowCalls_of_next (exec_mbc3Ramb data s) rfl h
  | huc1Ramb data =>
    cases mode : s.mapper.ramBankMode with
    | false => exact nowCalls_of_next (exec_huc1Ramb_rom data s mode) rfl h
    | true => exact nowCalls_of_next (exec_huc1Ramb_ram data s mode) rfl h
  | tpp1Mr2 data => exact nowCalls_of_next (exec_tpp1Mr2 data s) rfl h
  | _ =>
    injection h with h
    subst h
    rfl

/-- An MBC3 latch invokes `now()` once if it is an edge (R172) of a clock that runs (R173). -/
theorem nowCalls_mbc3Latch {data : Byte} {s t : State} (h : exec (.mbc3Latch data) s = .next t)
    (drawn : t.nowCalls ≠ s.nowCalls) :
    t.nowCalls = s.nowCalls + 1 ∧ s.cfg.rtcWired = true ∧ s.rtc.lastLatch = false ∧ dataBit0 data = true ∧
      dhHalt s.rtc.dh = false := by
  cases wired : s.cfg.rtcWired with
  | false => exact absurd (nowCalls_of_next (exec_mbc3Latch_unwired data s wired) rfl h) drawn
  | true =>
    by_cases edge : s.rtc.lastLatch = true ∨ dataBit0 data = false
    · exact absurd (nowCalls_of_next (exec_mbc3Latch_no_edge data s wired edge) rfl h) drawn
    · obtain ⟨before, now1⟩ := not_or.mp edge
      rw [Bool.not_eq_true] at before
      rw [Bool.not_eq_false] at now1
      have calls := nowCalls_of_next (exec_mbc3Latch_edge data s wired before now1) rfl h
      cases halted : dhHalt s.rtc.dh with
      | true => exact absurd (calls.trans (if_pos halted)) drawn
      | false => exact ⟨calls.trans (if_neg (by simp [halted])), rfl, before, now1, rfl⟩

/-- A write through the RAM window invokes `now()` once if it goes to an MBC3 clock register. -/
theorem nowCalls_wrXram {off : BitVec 13} {data : Byte} {s t : State} (h : exec (.wrXram off data) s = .next t)
    (drawn : t.nowCalls ≠ s.nowCalls) :
    t.nowCalls = s.nowCalls + 1 ∧ s.win.we = true ∧ s.win.rtcEn = true ∧ s.cfg.variant ≠ .tpp1 := by
  rcases exec_wrXram_next h with rfl | ⟨-, -, -, x, rfl, -⟩ | ⟨we, rtcEn, variant, c, rfl, -⟩ | ⟨-, rfl⟩
  · exact absurd rfl drawn
  · exact absurd rfl drawn
  · exact ⟨rfl, we, rtcEn, variant⟩
  · exact absurd rfl drawn

/-- A count that goes up only under a condition went up by one, and the condition holds. -/
theorem succ_of_ite_ne {c : Prop} [Decidable c] {m n : Nat} (h : m = if c then n + 1 else n) (ne : m ≠ n) :
    m = n + 1 ∧ c := by
  split at h
  case isTrue hc => exact ⟨h, hc⟩
  case isFalse => exact absurd h ne

/-- Settles O49: the clock operations one by one; no other row invokes `now()`. -/
theorem nowOnlyInClockOperations : Obligations.NowOnlyInClockOperations := by
  intro i s t h drawn
  cases i with
  | wrXram off data =>
    obtain ⟨once, we, rtcEn, variant⟩ := nowCalls_wrXram h drawn
    exact ⟨once, .inr (.inr (.inl ⟨off, data, rfl, we, rtcEn, variant⟩))⟩
  | rtcWrS data => exact ⟨nowCalls_of_next (exec_rtcWrS data s) rfl h, .inr (.inl ⟨data, by simp⟩)⟩
  | rtcWrM data => exact ⟨nowCalls_of_next (exec_rtcWrM data s) rfl h, .inr (.inl ⟨data, by simp⟩)⟩
  | rtcWrH data => exact ⟨nowCalls_of_next (exec_rtcWrH data s) rfl h, .inr (.inl ⟨data, by simp⟩)⟩
  | rtcWrDl data => exact ⟨nowCalls_of_next (exec_rtcWrDl data s) rfl h, .inr (.inl ⟨data, by simp⟩)⟩
  | rtcWrDh data => exact ⟨nowCalls_of_next (exec_rtcWrDh data s) rfl h, .inr (.inl ⟨data, by simp⟩)⟩
  | mbc3Latch data =>
    obtain ⟨once, wired, before, now1, runs⟩ := nowCalls_mbc3Latch h drawn
    have odd : data.toNat % 2 = 1 := of_decide_eq_true (dataBit0_eq data ▸ now1)
    exact ⟨once, .inl ⟨data, rfl, wired, before, odd, runs⟩⟩
  | tpp1Latch =>
    obtain ⟨once, runs⟩ := succ_of_ite_ne (nowCalls_of_next (exec_tpp1Latch s) rfl h) drawn
    exact ⟨once, by simp [runs]⟩
  | tpp1Settime =>
    obtain ⟨once, runs⟩ := succ_of_ite_ne (nowCalls_of_next (exec_tpp1Settime s) rfl h) drawn
    exact ⟨once, by simp [runs]⟩
  | tpp1Halt =>
    cases runs : s.tx.running with
    | true => exact ⟨nowCalls_of_next (exec_tpp1Halt_acts s runs) rfl h, by simp⟩
    | false => exact absurd (nowCalls_of_next (exec_tpp1Halt_ignored s runs) rfl h) drawn
  | tpp1Resume =>
    cases runs : s.tx.running with
    | true => exact absurd (nowCalls_of_next (exec_tpp1Resume_ignored s runs) rfl h) drawn
    | false => exact ⟨nowCalls_of_next (exec_tpp1Resume_acts s runs) rfl h, by simp⟩
  | _ => exact absurd (nowCalls_of_not_clockOperation rfl h) drawn

end Sys2Proof.Machine
end

section
/-! The configuration a ROM file gives (spec/60_exceptions.md R332 to R336). -/

namespace Sys2Proof.Machine

/-! ## `next_pow2` and the number of ROM banks (spec/00_scope.md R13, R335) -/

theorem pow2From_eq_two_pow (k n a : Nat) : ∃ b, pow2From k n (2 ^ a) = 2 ^ b := by
  induction k generalizing a with
  | zero => exact ⟨a, rfl⟩
  | succ k ih =>
    rw [pow2From]
    split
    · exact ⟨a, rfl⟩
    · rw [← Nat.pow_succ']
      exact ih (a + 1)

theorem le_pow2From {k n p : Nat} (enough : n ≤ p * 2 ^ k) : n ≤ pow2From k n p := by
  induction k generalizing p with
  | zero => simpa [pow2From] using enough
  | succ k ih =>
    rw [pow2From]
    split
    · assumption
    · refine ih (enough.trans_eq ?_)
      ring

theorem half_pow2From_lt {k n p : Nat} (h : p / 2 < n) : pow2From k n p / 2 < n := by
  induction k generalizing p with
  | zero => exact h
  | succ k ih =>
    rw [pow2From]
    split
    · exact h
    · exact ih (by omega)

theorem le_nextPow2 (n : Nat) : n ≤ nextPow2 n := le_pow2From (by simpa using Nat.lt_two_pow_self.le)

theorem half_nextPow2_lt {n : Nat} (pos : 0 < n) : nextPow2 n / 2 < n := half_pow2From_lt pos

theorem romBanksOf_eq (fileSize : Nat) :
    romBanksOf fileSize = 2 ∨ romBanksOf fileSize = nextPow2 ((fileSize + 0x3FFF) / 0x4000) :=
  max_choice _ _

theorem isPow2_romBanksOf (fileSize : Nat) : isPow2 (romBanksOf fileSize) = true := by
  obtain ⟨b, hb⟩ := pow2From_eq_two_pow ((fileSize + 0x3FFF) / 0x4000) ((fileSize + 0x3FFF) / 0x4000) 0
  rcases romBanksOf_eq fileSize with e | e
  · rw [e]
    exact isPow2_two_pow 1
  · rw [e, nextPow2, ← Nat.pow_zero 2, hb]
    exact isPow2_two_pow b

theorem two_le_romBanksOf (fileSize : Nat) : 2 ≤ romBanksOf fileSize := le_max_left _ _

/-- The banks hold the file. -/
theorem le_romBanksOf (fileSize : Nat) : fileSize ≤ romBanksOf fileSize * 0x4000 := by
  have ceil : (fileSize + 0x3FFF) / 0x4000 ≤ romBanksOf fileSize := (le_nextPow2 _).trans (le_max_right _ _)
  omega

/-- Half as many banks do not, unless there are only the two every file has. -/
theorem romBanksOf_least (fileSize : Nat) :
    romBanksOf fileSize = 2 ∨ romBanksOf fileSize / 2 * 0x4000 < fileSize := by
  rcases romBanksOf_eq fileSize with e | e
  · exact .inl e
  · rcases Nat.eq_zero_or_pos ((fileSize + 0x3FFF) / 0x4000) with zero | pos
    · have two := two_le_romBanksOf fileSize
      rw [e, zero] at two
      exact absurd two (by decide)
    · have half := half_nextPow2_lt pos
      rw [← e] at half
      omega

/-! ## RAM banks (R334) -/

/-- The table of RAM size codes, the code read as a number. -/
theorem ramBanksOfCode_eq (v : Variant) (c : Byte) :
    ramBanksOfCode v c =
      if c.toNat = 0 then (if v = .mbc2 then 1 else 0)
      else if c.toNat = 2 then 1
      else if c.toNat = 3 then 4
      else if c.toNat = 4 then 16
      else if c.toNat = 5 then 16
      else Config.rambanksUnlisted c := by
  simp only [ramBanksOfCode, ← BitVec.toNat_inj]
  rfl

theorem ramBanksOfTpp1_eq (c : Byte) :
    ramBanksOfTpp1 c = if c.toNat = 0 then 0 else if c.toNat < 9 then 2 ^ (c.toNat - 1) else 256 := by
  have zero : c = 0#8 ↔ c.toNat = 0 := BitVec.toNat_inj.symm
  simp only [ramBanksOfTpp1, zero]
  split
  · rfl
  split
  · rw [Nat.min_eq_left (by omega)]
  · rw [Nat.min_eq_right (by omega)]
    rfl

/-- The table of RAM size codes, code by code. -/
theorem ramBanksOfCode_table (v : Variant) (c : Byte) :
    (c.toNat = 0 → ramBanksOfCode v c = if v = .mbc2 then 1 else 0) ∧
    (c.toNat = 2 → ramBanksOfCode v c = 1) ∧
    (c.toNat = 3 → ramBanksOfCode v c = 4) ∧
    (c.toNat = 4 → ramBanksOfCode v c = 16) ∧
    (c.toNat = 5 → ramBanksOfCode v c = 16) ∧
    (c.toNat = 1 ∨ 6 ≤ c.toNat → ramBanksOfCode v c = Config.rambanksUnlisted c ∧ ∃ k, ramBanksOfCode v c = 2 ^ k) := by
  have unlisted (h : c.toNat = 1 ∨ 6 ≤ c.toNat) : ramBanksOfCode v c = Config.rambanksUnlisted c := by
    rw [ramBanksOfCode_eq, if_neg (by omega), if_neg (by omega), if_neg (by omega), if_neg (by omega),
      if_neg (by omega)]
  refine ⟨?_, ?_, ?_, ?_, ?_, fun h => ⟨unlisted h, _, unlisted h⟩⟩ <;>
    (intro h; simp [ramBanksOfCode_eq, h])

theorem isPow2_ramBanksOfCode (v : Variant) (c : Byte) :
    ramBanksOfCode v c = 0 ∨ isPow2 (ramBanksOfCode v c) = true := by
  rw [ramBanksOfCode_eq]
  split_ifs
  · exact .inr (isPow2_two_pow 0)
  · exact .inl rfl
  · exact .inr (isPow2_two_pow 0)
  · exact .inr (isPow2_two_pow 2)
  · exact .inr (isPow2_two_pow 4)
  · exact .inr (isPow2_two_pow 4)
  · exact .inr (rambanksUnlisted_isPow2 c)

theorem isPow2_ramBanksOfTpp1 (c : Byte) : ramBanksOfTpp1 c = 0 ∨ isPow2 (ramBanksOfTpp1 c) = true := by
  unfold ramBanksOfTpp1
  split
  · exact .inl rfl
  · exact .inr (isPow2_two_pow _)

theorem isPow2_ramBanksOf (v : Variant) (bytes : List Byte) :
    ramBanksOf v bytes = 0 ∨ isPow2 (ramBanksOf v bytes) = true := by
  unfold ramBanksOf
  split
  · exact isPow2_ramBanksOfTpp1 _
  · exact isPow2_ramBanksOfCode _ _

/-! ## The type byte (R332, R336) -/

theorem classify_ne_mbc1m64 {bytes : List Byte} {v : Variant} (h : classify bytes = .ok v) : v ≠ .mbc1m64 := by
  unfold classify at h
  repeat' split at h
  all_goals cases h
  all_goals decide

/-- The types with a clock are MBC3 types. -/
theorem classify_of_rtcType {bytes : List Byte} (h : header bytes 0x147 ∈ rtcTypes) : classify bytes = .ok .mbc3 := by
  have types : ∀ b ∈ rtcTypes, b ∉ [0x00#8, 0x08#8, 0x09#8] ∧ b ∉ [0x01#8, 0x02#8, 0x03#8] ∧ b ∉ [0x05#8, 0x06#8] ∧
      b ∈ [0x0F#8, 0x10#8, 0x11#8, 0x12#8, 0x13#8] := by decide
  obtain ⟨plain, mbc1, mbc2, mbc3⟩ := types _ h
  rw [classify, if_neg plain, if_neg mbc1, if_neg mbc2, if_pos mbc3]

theorem classify_of_checkRom {bytes : List Byte} {v : Variant} (h : checkRom bytes = .ok v) : classify bytes = .ok v := by
  unfold checkRom at h
  split at h
  · nomatch h
  · exact h

/-- A byte of a list of types is one of their numbers. -/
theorem mem_iff_toNat_mem (b : Byte) (types : List Byte) : b ∈ types ↔ b.toNat ∈ types.map BitVec.toNat :=
  (List.mem_map_of_injective fun _ _ => BitVec.eq_of_toNat_eq).symm

/-! ## The configuration -/

section
variable {v : Variant} {bytes : List Byte} {multicartCompat : Bool} {old : Cfg}

theorem chooseVariant_eq_mbc1m64_iff {rambanks rombanks : Nat} (h : v ≠ .mbc1m64) :
    chooseVariant v rambanks rombanks multicartCompat = .mbc1m64 ↔
      v = .mbc1 ∧ rambanks = 0 ∧ rombanks = 64 ∧ multicartCompat = true := by
  unfold chooseVariant
  split
  case isTrue multicart => exact iff_of_true rfl multicart
  case isFalse other => exact iff_of_false h other

theorem chooseVariant_of_ne_mbc1m64 {rambanks rombanks : Nat}
    (h : chooseVariant v rambanks rombanks multicartCompat ≠ .mbc1m64) :
    chooseVariant v rambanks rombanks multicartCompat = v := by
  unfold chooseVariant at h ⊢
  split
  case isTrue multicart => exact absurd (if_pos multicart) h
  case isFalse => rfl

theorem cfgOf_rtcWired_iff :
    (cfgOf v bytes multicartCompat old).rtcWired = true ↔ header bytes 0x147 ∈ rtcTypes := decide_eq_true_iff

theorem cfgOf_battery_iff :
    (cfgOf v bytes multicartCompat old).battery = true ↔
      header bytes 0x147 ∈ batteryTypes ∨ v = .tpp1 ∧ (header bytes 0x153).getLsbD 3 = true := by
  rw [cfgOf, Bool.or_eq_true, Bool.and_eq_true, decide_eq_true_iff, beq_iff_eq]
  exact or_congr_right (and_congr_right fun tpp1 => by rw [featuresOf, if_pos tpp1])

theorem cfgOf_hasRtc_iff :
    (cfgOf v bytes multicartCompat old).hasRtc = true ↔
      header bytes 0x147 ∈ rtcTypes ∨ v = .tpp1 ∧ (header bytes 0x153).getLsbD 2 = true := by
  rw [cfgOf, Bool.or_eq_true, Bool.and_eq_true, decide_eq_true_iff, beq_iff_eq]
  exact or_congr_right (and_congr_right fun tpp1 => by rw [featuresOf, if_pos tpp1])

/-- Every configuration a load installs is legal (spec/00_scope.md R5, R6). -/
theorem cfgOf_legal (h : checkRom bytes = .ok v) : (cfgOf v bytes multicartCompat old).legal = true := by
  have type := classify_of_checkRom h
  have multicart := chooseVariant_eq_mbc1m64_iff (classify_ne_mbc1m64 type) (rambanks := ramBanksOf v bytes)
    (rombanks := romBanksOf bytes.length) (multicartCompat := multicartCompat)
  have variant {w : Variant} (hw : w ≠ .mbc1m64) (e : (cfgOf v bytes multicartCompat old).variant = w) : v = w :=
    (chooseVariant_of_ne_mbc1m64 (ne_of_eq_of_ne e hw)).symm.trans e
  refine (Cfg.legal_iff _).mpr ⟨isPow2_romBanksOf _, two_le_romBanksOf _, isPow2_ramBanksOf v bytes, fun wired => ?_,
    fun m64 => ?_, fun mbc2 => ?_, fun tpp1 => ?_⟩
  · have mbc3 : v = .mbc3 :=
      Except.ok.inj (type.symm.trans (classify_of_rtcType (cfgOf_rtcWired_iff.mp wired)))
    subst mbc3
    exact chooseVariant_of_ne_mbc1m64 fun e => nomatch (multicart.mp e).1
  · obtain ⟨-, noRam, banks, -⟩ := multicart.mp m64
    exact ⟨banks, noRam⟩
  · obtain rfl := variant (by decide) mbc2
    exact ramBanksOfCode_mbc2_ne_zero _
  · obtain rfl := variant (by decide) tpp1
    exact ramBanksOfTpp1_le _

end

/-- Settles O52: clause by clause, from the laws of the ROM banks, the RAM banks and the type byte. -/
theorem loadedConfiguration : Obligations.LoadedConfiguration := by
  rintro v bytes multicartCompat old c check rfl
  have type := classify_of_checkRom check
  have typeByte (types : List Byte) := mem_iff_toNat_mem (header bytes 0x147) types
  refine ⟨cfgOf_legal check, le_romBanksOf _, romBanksOf_least _,
    chooseVariant_eq_mbc1m64_iff (classify_ne_mbc1m64 type), chooseVariant_of_ne_mbc1m64, ?_, fun tpp1 => ⟨?_, ?_⟩,
    fun other => if_neg other, fun other => ?_, ?_, ?_⟩
  · exact cfgOf_rtcWired_iff.trans ((typeByte rtcTypes).trans (by simp [rtcTypes, header]))
  · exact if_pos tpp1
  · exact (if_pos tpp1).trans (ramBanksOfTpp1_eq _)
  · have banks : ramBanksOf v bytes = ramBanksOfCode v (header bytes 0x149) := if_neg other
    rw [show (cfgOf v bytes multicartCompat old).rambanks = _ from banks]
    exact ramBanksOfCode_table v _
  · exact cfgOf_battery_iff.trans (or_congr_left (typeByte batteryTypes))
  · exact cfgOf_hasRtc_iff.trans (or_congr_left (typeByte rtcTypes))

end Sys2Proof.Machine
end

section
/-! Decoding a packed word, window by window (spec/30_encoding.md R122), and that decoding undoes encoding. -/

namespace Sys2Proof

/-! ## The routing of a packed word (R122) -/

/-- A transaction at `0x8000..0x9FFF`. -/
theorem decode_pack_ext8000 (m : DecodeMode) (rw : Bool) (off : BitVec 13) (d : Byte) :
    decode m (pack rw (0b100#3 ++ off) d) = .ext8000 rw off (if rw then d else 0#8) := by
  rw [decode, tAddr_pack, if_pos (top3_of_window13 _ off), off13_of_window, extData, tRw_pack, tData_pack]

/-- A transaction at `0xC000..0xFFFF`. -/
theorem decode_pack_extC000 (m : DecodeMode) (rw : Bool) (off : BitVec 14) (d : Byte) :
    decode m (pack rw (0b11#2 ++ off) d) = .extC000 rw off (if rw then d else 0#8) := by
  have top2 := top2_of_window14 0b11#2 off
  have not8000 : (0b11#2 ++ off : Addr).extractLsb' 13 3 ≠ 0b100#3 := by
    have bits : ∀ x : BitVec 1, (0b11#2 ++ x : BitVec 3) ≠ 0b100#3 := by decide
    rw [top3_of_top2, top2]
    exact bits _
  rw [decode, tAddr_pack, if_neg not8000, if_pos top2, off14_of_window, extData, tRw_pack, tData_pack]

/-- A transaction at `0xA000..0xBFFF`. -/
theorem decode_pack_xram (m : DecodeMode) (rw : Bool) {a : Addr} (d : Byte) (h : a.extractLsb' 13 3 = 0b101#3) :
    decode m (pack rw a d) = if rw then decodeWrXram m a d else decodeRdXram m a := by
  have notC000 : a.extractLsb' 14 2 ≠ 0b11#2 := by
    have bits : ∀ x : BitVec 1, (0b11#2 ++ x : BitVec 3) ≠ 0b101#3 := by decide
    intro top2
    rw [top3_of_top2, top2] at h
    exact bits _ h
  have not8000 : a.extractLsb' 13 3 ≠ 0b100#3 := by
    rw [h]
    decide
  rw [decode, tAddr_pack, tRw_pack, tData_pack, if_neg not8000, if_neg notC000, if_pos h]

/-- A transaction below `0x8000`. -/
theorem decode_pack_low (m : DecodeMode) (rw : Bool) {a : Addr} (d : Byte) (low : a.getLsbD 15 = false) :
    decode m (pack rw a d) =
      if rw then decodeControl m.variant a d
      else if a.getLsbD 14 then .rdRomx (a.extractLsb' 0 14) else .rdRom0 (a.extractLsb' 0 14) := by
  have top3 : (a.extractLsb' 13 3).getLsbD 2 = false := by
    rw [BitVec.getLsbD_extractLsb', low, Bool.and_false]
  have top2 : (a.extractLsb' 14 2).getLsbD 1 = false := by
    rw [BitVec.getLsbD_extractLsb', low, Bool.and_false]
  have not8000 : a.extractLsb' 13 3 ≠ 0b100#3 := fun e => by rw [e] at top3; nomatch top3
  have notC000 : a.extractLsb' 14 2 ≠ 0b11#2 := fun e => by rw [e] at top2; nomatch top2
  have notA000 : a.extractLsb' 13 3 ≠ 0b101#3 := fun e => by rw [e] at top3; nomatch top3
  rw [decode, tAddr_pack, tRw_pack, tData_pack, if_neg not8000, if_neg notC000, if_neg notA000]

theorem decode_rdRom0 (m : DecodeMode) (off : BitVec 14) : decode m (encode (.rdRom0 off)) = .rdRom0 off := by
  have bit15 : (0b00#2 ++ off : Addr).getLsbD 15 = false := (getLsbD_window 0b00#2 off 15).trans rfl
  have bit14 : (0b00#2 ++ off : Addr).getLsbD 14 = false := (getLsbD_window 0b00#2 off 14).trans rfl
  rw [encode, decode_pack_low m false _ bit15, bit14, off14_of_window]
  rfl

theorem decode_rdRomx (m : DecodeMode) (off : BitVec 14) : decode m (encode (.rdRomx off)) = .rdRomx off := by
  have bit15 : (0b01#2 ++ off : Addr).getLsbD 15 = false := (getLsbD_window 0b01#2 off 15).trans rfl
  have bit14 : (0b01#2 ++ off : Addr).getLsbD 14 = true := (getLsbD_window 0b01#2 off 14).trans rfl
  rw [encode, decode_pack_low m false _ bit15, bit14, off14_of_window]
  rfl

/-- The write of a control register: what the variant's write decoder gives at the address of its row. -/
theorem decode_control {m : DecodeMode} {i : Instr} {a : Addr} {d : Byte} {v : Variant}
    (variant : (m.variant == v) = true) (word : encode i = pack true a d) (low : a.getLsbD 15 = false)
    (row : decodeControl v a d = i) : decode m (encode i) = i := by
  rw [word, decode_pack_low m true d low, if_pos rfl, eq_of_beq variant, row]

/-! ## The rows that replace RD.XRAM and WR.XRAM (R133) -/

/-- An MBC3 read of a clock register. -/
theorem decode_rtcRd {m : DecodeMode} {i : Instr} {r : RtcReg} (selected : (m.readsRtc && m.reg == r) = true)
    (word : encode i = pack false 0xA000#16 0#8) (row : decodeRtcRd r = i) : decode m (encode i) = i := by
  obtain ⟨reads, reg⟩ := (Bool.and_eq_true _ _).mp selected
  rw [word, decode_pack_xram m false _ rfl, if_neg Bool.false_ne_true, decodeRdXram, if_pos reads, eq_of_beq reg, row]

/-- An MBC3 write of a clock register. -/
theorem decode_rtcWr {m : DecodeMode} {i : Instr} {r : RtcReg} {d : Byte}
    (selected : (m.writesRtc && m.reg == r) = true) (word : encode i = pack true 0xA000#16 d)
    (row : decodeRtcWr r d = i) : decode m (encode i) = i := by
  obtain ⟨writes, reg⟩ := (Bool.and_eq_true _ _).mp selected
  rw [word, decode_pack_xram m true _ rfl, if_pos rfl, decodeWrXram, if_pos writes, eq_of_beq reg, row]

theorem DecodeMode.variant_of_readsTx {m : DecodeMode} {k : BitVec 2} (h : m.readsTx k = true) :
    m.variant = .tpp1 ∧ m.curmap = k := by
  simp only [DecodeMode.readsTx, Bool.and_eq_true, beq_iff_eq] at h
  obtain ⟨⟨⟨variant, -⟩, -⟩, curmap⟩ := h
  exact ⟨variant, curmap⟩

theorem DecodeMode.readsRtc_of_tpp1 {m : DecodeMode} (h : m.variant = .tpp1) : m.readsRtc = false := by
  simp [DecodeMode.readsRtc, h]

theorem DecodeMode.writesRtc_of_writesTx {m : DecodeMode} (h : m.writesTx = true) : m.writesRtc = false := by
  simp only [DecodeMode.writesTx, Bool.and_eq_true, beq_iff_eq] at h
  obtain ⟨⟨⟨variant, -⟩, -⟩, -⟩ := h
  simp [DecodeMode.writesRtc, variant]

/-- A TPP1 read of MR0 to MR3. -/
theorem decode_txRdMr {m : DecodeMode} {i : Instr} {a : Addr} (selected : m.readsTx 0#2 = true)
    (word : encode i = pack false a 0#8) (window : a.extractLsb' 13 3 = 0b101#3)
    (row : decodeTxRdMr (low2 a) = i) : decode m (encode i) = i := by
  obtain ⟨tpp1, -⟩ := DecodeMode.variant_of_readsTx selected
  have noRtc := DecodeMode.readsRtc_of_tpp1 tpp1
  rw [word, decode_pack_xram m false _ window, if_neg Bool.false_ne_true, decodeRdXram, noRtc,
    if_neg Bool.false_ne_true, if_pos selected, row]

/-- A TPP1 read of W, H, M, S. -/
theorem decode_txRdClock {m : DecodeMode} {i : Instr} {a : Addr} (selected : m.readsTx 3#2 = true)
    (word : encode i = pack false a 0#8) (window : a.extractLsb' 13 3 = 0b101#3)
    (row : decodeTxRdClock (low2 a) = i) : decode m (encode i) = i := by
  obtain ⟨tpp1, curmap⟩ := DecodeMode.variant_of_readsTx selected
  have noRtc := DecodeMode.readsRtc_of_tpp1 tpp1
  have noMr : ¬ m.readsTx 0#2 = true := fun mr => by
    have zero := (DecodeMode.variant_of_readsTx mr).2
    rw [curmap] at zero
    nomatch zero
  rw [word, decode_pack_xram m false _ window, if_neg Bool.false_ne_true, decodeRdXram, noRtc,
    if_neg Bool.false_ne_true, if_neg noMr, if_pos selected, row]

/-- A TPP1 write of W, H, M, S. -/
theorem decode_txWr {m : DecodeMode} {i : Instr} {a : Addr} {d : Byte} (selected : m.writesTx = true)
    (word : encode i = pack true a d) (window : a.extractLsb' 13 3 = 0b101#3)
    (row : decodeTxWr (low2 a) d = i) : decode m (encode i) = i := by
  rw [word, decode_pack_xram m true _ window, if_pos rfl, decodeWrXram, DecodeMode.writesRtc_of_writesTx selected,
    if_neg Bool.false_ne_true, if_pos selected, row]

theorem decode_rdXram {m : DecodeMode} {off : BitVec 13} (selected : (Instr.rdXram off).selectedBy m = true) :
    decode m (encode (.rdXram off)) = .rdXram off := by
  simp only [Instr.selectedBy, Bool.and_eq_true, Bool.not_eq_true'] at selected
  obtain ⟨⟨noRtc, noMr⟩, noClock⟩ := selected
  rw [encode, decode_pack_xram m false _ (top3_of_window13 _ off), decodeRdXram, noRtc, noMr, noClock, off13_of_window]
  rfl

theorem decode_wrXram {m : DecodeMode} {off : BitVec 13} {d : Byte}
    (selected : (Instr.wrXram off d).selectedBy m = true) : decode m (encode (.wrXram off d)) = .wrXram off d := by
  simp only [Instr.selectedBy, Bool.and_eq_true, Bool.not_eq_true'] at selected
  obtain ⟨noRtc, noTx⟩ := selected
  rw [encode, decode_pack_xram m true _ (top3_of_window13 _ off), decodeWrXram, noRtc, noTx, off13_of_window]
  rfl

/-! ## MR3 commands (R130) -/

theorem decodeMr3_rumble (level : BitVec 2) : decodeMr3 (0b001000#6 ++ level) = .tpp1Rumble level := by
  revert level
  decide

/-- A code that no other row takes. -/
theorem decodeMr3_ignored {code : Byte} (h : (Instr.tpp1Mr3ign code).wf = true) :
    decodeMr3 code = .tpp1Mr3ign code := by
  have rumble : ∀ code : Byte, code.extractLsb' 2 6 = 0b001000#6 →
      code = 0x20#8 ∨ code = 0x21#8 ∨ code = 0x22#8 ∨ code = 0x23#8 := by decide
  simp only [Instr.wf, mr3Acts, Bool.not_eq_true', Bool.or_eq_false_iff, beq_eq_false_iff_ne] at h
  obtain ⟨⟨⟨⟨⟨⟨⟨⟨⟨⟨⟨⟨map0, map1⟩, map2⟩, map3⟩, latch⟩, settime⟩, clrovf⟩, halt⟩, resume⟩, r0⟩, r1⟩, r2⟩, r3⟩ := h
  have noRumble : code.extractLsb' 2 6 ≠ 0b001000#6 := fun e => by
    rcases rumble code e with e | e | e | e
    · exact r0 e
    · exact r1 e
    · exact r2 e
    · exact r3 e
  rw [decodeMr3, if_neg map0, if_neg map1, if_neg map2, if_neg map3, if_neg latch, if_neg settime, if_neg clrovf,
    if_neg halt, if_neg resume, if_neg noRumble]

/-! ## Decoding undoes encoding -/

theorem datum_of_readHasNoDatum {write : Bool} {d : Byte} (h : readHasNoDatum write d = true) :
    (if write then d else 0#8) = d := by
  cases write with
  | true => rfl
  | false => exact (eq_of_beq h).symm

/-- The word of a well-formed transaction decodes to it in every mode that selects its row. -/
theorem decode_encode {m : DecodeMode} {i : Instr} (wf : i.wf = true) (selected : i.selectedBy m = true) :
    decode m (encode i) = i := by
  cases i with
  | rdRom0 off => exact decode_rdRom0 m off
  | rdRomx off => exact decode_rdRomx m off
  | rdXram off => exact decode_rdXram selected
  | wrXram off data => exact decode_wrXram selected
  | ext8000 write off data => rw [encode, decode_pack_ext8000, datum_of_readHasNoDatum wf]
  | extC000 write off data => rw [encode, decode_pack_extC000, datum_of_readHasNoDatum wf]
  | rtcRdS | rtcRdM | rtcRdH | rtcRdDl | rtcRdDh => exact decode_rtcRd selected rfl rfl
  | rtcWrS | rtcWrM | rtcWrH | rtcWrDl | rtcWrDh => exact decode_rtcWr selected rfl rfl
  | txRdMr0 | txRdMr1 | txRdMr2 | txRdMr3 => exact decode_txRdMr selected rfl rfl rfl
  | txRdW | txRdH | txRdM | txRdS => exact decode_txRdClock selected rfl rfl rfl
  | txWrW | txWrH | txWrM | txWrS => exact decode_txWr selected rfl rfl rfl
  | tpp1Rumble level => exact decode_control selected rfl rfl (decodeMr3_rumble level)
  | tpp1Mr3ign code => exact decode_control selected rfl rfl (decodeMr3_ignored wf)
  | _ => exact decode_control selected rfl rfl rfl

end Sys2Proof

namespace Sys2Proof.Machine

/-- A well-formed transaction that the state selects runs its own instruction (R132). -/
theorem step_of_issued_encode {s : State} {i : Instr} {rest : List Request} (wf : i.wf = true)
    (selected : i.selectedBy (decodeMode s) = true) (issued : Issued (encode i) rest s) :
    step s = exec i { s with queue := rest } := by
  rw [issued.step_eq, decode_encode wf selected]

/-- A word put at the head of the queue is taken by the next step. -/
theorem issued_withFetchWord {s : State} (nbits w : Nat) (live : s.live = true) :
    Issued (tableWord nbits w) s.queue (s.withFetchWord nbits w) := ⟨live, rfl⟩

/-- Settles O6: the head of the queue decides, and decoding undoes encoding. -/
theorem stepRunsTheDecodedTransaction : Obligations.StepRunsTheDecodedTransaction := by
  refine ⟨fun s t rest => Issued.step_eq, fun s i rest => step_of_issued_encode,
    fun s nbits w live => (issued_withFetchWord nbits w live).step_eq, fun s op rest live queue => ?_,
    fun s v rest => step_of_queue_cons, fun s => step_of_queue_nil⟩
  exact (step_of_queue_cons queue).trans (runHostOp_of_live live)

end Sys2Proof.Machine
end

section
/-! A decoded transaction is one of the state it was decoded in: its row's variant and state conditions hold
(spec/30_encoding.md R132, R133, R136). -/

namespace Sys2Proof

theorem ite_selectedBy {m : DecodeMode} {c : Prop} [Decidable c] {i j : Instr} (hi : i.selectedBy m = true)
    (hj : j.selectedBy m = true) : (if c then i else j).selectedBy m = true := by
  split
  · exact hi
  · exact hj

theorem pick4_selectedBy {m : DecodeMode} {i0 i1 i2 i3 : Instr} (k : BitVec 2) (h0 : i0.selectedBy m = true)
    (h1 : i1.selectedBy m = true) (h2 : i2.selectedBy m = true) (h3 : i3.selectedBy m = true) :
    (pick4 k i0 i1 i2 i3).selectedBy m = true :=
  ite_selectedBy h0 (ite_selectedBy h1 (ite_selectedBy h2 h3))

/-- Every MR3 command is a TPP1 row. -/
theorem decodeMr3_selectedBy {m : DecodeMode} (tpp1 : (m.variant == .tpp1) = true) (code : Byte) :
    (decodeMr3 code).selectedBy m = true := by
  unfold decodeMr3
  repeat' apply ite_selectedBy
  all_goals exact tpp1

/-- A control-register write decodes to a row of the variant. -/
theorem decodeControl_selectedBy (m : DecodeMode) (a : Addr) (d : Byte) :
    (decodeControl m.variant a d).selectedBy m = true := by
  cases variant : m.variant with
  | plain | mbc1 | mbc1m64 | mbc3 | huc1 =>
    have row := beq_iff_eq.mpr variant
    exact pick4_selectedBy (region a) row row row row
  | mbc2 =>
    have row := beq_iff_eq.mpr variant
    exact ite_selectedBy row (ite_selectedBy row (ite_selectedBy row (ite_selectedBy row row)))
  | mbc5 =>
    have row := beq_iff_eq.mpr variant
    exact pick4_selectedBy (region a) row (ite_selectedBy row row) row row
  | tpp1 =>
    have row := beq_iff_eq.mpr variant
    exact ite_selectedBy row (pick4_selectedBy (low2 a) row row row (decodeMr3_selectedBy row d))

theorem decodeRtcRd_selectedBy {m : DecodeMode} (reads : m.readsRtc = true) :
    (decodeRtcRd m.reg).selectedBy m = true := by
  cases reg : m.reg <;> simp [decodeRtcRd, Instr.selectedBy, reads, reg]

theorem decodeRtcWr_selectedBy {m : DecodeMode} (d : Byte) (writes : m.writesRtc = true) :
    (decodeRtcWr m.reg d).selectedBy m = true := by
  cases reg : m.reg <;> simp [decodeRtcWr, Instr.selectedBy, writes, reg]

/-- Every word decodes to a row that the mode selects. -/
theorem decode_selectedBy (m : DecodeMode) (t : Word) : (decode m t).selectedBy m = true := by
  refine decode_ind (fun i => i.selectedBy m = true) m t (fun _ => rfl) (fun _ => rfl) (fun _ _ => ?_) (fun _ _ => ?_)
    (fun _ _ => decodeControl_selectedBy m _ _) (fun _ _ => rfl) (fun _ _ => rfl)
  · refine decodeWrXram_ind (fun i => i.selectedBy m = true) m _ _ (decodeRtcWr_selectedBy _) (fun tx => ?_)
      (fun noRtc noTx => ?_)
    · exact pick4_selectedBy _ tx tx tx tx
    · simp [Instr.selectedBy, noRtc, noTx]
  · refine decodeRdXram_ind (fun i => i.selectedBy m = true) m _ decodeRtcRd_selectedBy (fun mr => ?_) (fun clock => ?_)
      (fun noRtc noMr noClock => ?_)
    · exact pick4_selectedBy _ mr mr mr mr
    · exact pick4_selectedBy _ clock clock clock clock
    · simp [Instr.selectedBy, noRtc, noMr, noClock]

end Sys2Proof
end

section
/-! What one transaction can do to the block, said once for all of them. -/

namespace Sys2Proof.Machine

/-! ## Writes of the mapper registers -/

/-- The mapper registers after a control-register write of the row `i` (spec/43_common_plain.md to spec/49_tpp1.md); `none`
for the rows that write no mapper register. -/
def registersAfter (i : Instr) (m : Mapper) : Option Mapper :=
  match i with
  | .plainRamen data | .mbc1Ramen data | .m64Ramen data | .mbc2Ramen data | .mbc3Ramen data | .huc1Ramen data
  | .mbc5Ramen data => some { m with enableRam := ramEnableValue data }
  | .mbc1Mode data | .m64Mode data | .huc1Mode data => some { m with ramBankMode := dataBit0 data }
  | .mbc1Bank1 data =>
    some { m with rombank := if m.ramBankMode then bankLow5 data else withBankLow5 m.rombank data }
  | .mbc1Bank2 data =>
    some (if m.ramBankMode then { m with rambank := ramBankLow2 data }
      else { m with rombank := withBankHigh2 m.rombank data })
  | .m64Bank1 data => some { m with rombank := withBankLow5 m.rombank data }
  | .m64Bank2 data => some { m with rombank := withBankHigh2 m.rombank data }
  | .mbc2Romb data => some { m with rombank := bankLow4 data }
  | .mbc3Romb data => some { m with rombank := bankLow7 data }
  | .mbc3Ramb data => some { m with rambank := data }
  | .huc1Romb data => some { m with rombank := bankLow6 data }
  | .huc1Ramb data => some { m with rambank := ramBankLow2 data }
  | .mbc5Romb0 data => some { m with rombank := (m.rombank &&& 0x100#16) ||| bankByte data }
  | .mbc5Romb1 data => some { m with rombank := bankBit8 data ||| (m.rombank &&& 0xFF#16) }
  | .mbc5Ramb data => some { m with rambank := ramBankLow4 data }
  | .tpp1Mr0 data => some { m with rombank := (m.rombank &&& 0xFF00#16) ||| bankByte data }
  | .tpp1Mr1 data => some { m with rombank := bankHighByte data ||| (m.rombank &&& 0x00FF#16) }
  | .tpp1Mr2 data => some { m with rambank := data }
  | .tpp1Map0 => some { m with mapmode := 0#2 }
  | .tpp1Map1 => some { m with mapmode := 1#2 }
  | .tpp1Map2 => some { m with mapmode := 2#2 }
  | .tpp1Map3 => some { m with mapmode := 3#2 }
  | _ => none

/-! ## The cases of a transaction -/

/-- What the row `i` may leave of overflow, running and rumble in the TPP1 extension (spec/10_state.md R48, R50, R51). -/
structure TxFlags (i : Instr) (s : State) (x : Tx) : Prop where
  overflow : x.overflow = s.tx.overflow ∨ (i = .tpp1Clrovf ∧ x.overflow = false) ∨
    (i = .tpp1Latch ∧ x.overflow = (s.tx.overflow || decide (154828800 ≤ (txElapsed (now s) s.tx).toNat)))
  running : x.running = s.tx.running ∨ (i = .tpp1Halt ∧ x.running = false) ∨ (i = .tpp1Resume ∧ x.running = true)
  rumble : x.rumble = s.tx.rumble ∨ i = .tpp1Rumble x.rumble

theorem TxFlags.of_eq {i : Instr} {s : State} {x : Tx} (overflow : x.overflow = s.tx.overflow)
    (running : x.running = s.tx.running) (rumble : x.rumble = s.tx.rumble) : TxFlags i s x :=
  ⟨.inl overflow, .inl running, .inl rumble⟩

/-- The next states a transaction of the row `i` can lead to: only an answer; a control-register write, of which this says
only what it leaves of TX (`exec_of_registersAfter` says the rest); a new MBC3 clock, its selection kept; a new TPP1
extension, its map mode and features kept; one byte of RAM. -/
inductive Effect (i : Instr) (s : State) : State → Prop where
  | answer (a : Answer) : Effect i s { s with answer := a }
  | registers {m : Mapper} {t : State} (write : registersAfter i s.mapper = some m)
      (tx : t.tx = { s.tx with curmap := t.tx.curmap }) : Effect i s t
  | rtc (r : Rtc) (calls : Nat) (active : r.active = s.rtc.active) (index : r.index = s.rtc.index)
      (lastLatch : s.cfg.rtcWired = false → r.lastLatch = s.rtc.lastLatch) :
      Effect i s { s with rtc := r, nowCalls := calls, answer := .done }
  | tx (x : Tx) (calls : Nat) (flags : TxFlags i s x) (curmap : x.curmap = s.tx.curmap)
      (enabled : x.enabled = s.tx.enabled) (features : x.features = s.tx.features) :
      Effect i s { s with tx := x, nowCalls := calls, answer := .done }
  | ram (index : Nat) (v : Byte) (inside : index < s.cfg.ramSize) :
      Effect i s { s with ram := Memory.write ramBlank s.ram index v, answer := .done }

/-- A transaction whose outcome is known. -/
theorem Effect.of_next {i : Instr} {s t u : State} (e : exec i s = .next u) (f : Effect i s u) (h : exec i s = .next t) :
    Effect i s t := by
  rw [e] at h
  injection h with h
  rwa [← h]

theorem effect_wrXram {off : BitVec 13} {data : Byte} {s t : State} (h : exec (.wrXram off data) s = .next t) :
    Effect (.wrXram off data) s t := by
  rcases exec_wrXram_next h with rfl | ⟨-, -, -, x, rfl, hx⟩ | ⟨-, -, -, c, rfl, active, index, lastLatch⟩ | ⟨inside, rfl⟩
  · exact .answer _
  · rw [hx]
    exact .tx _ _ (.of_eq rfl rfl rfl) rfl rfl rfl
  · exact .rtc _ _ active index fun _ => lastLatch
  · exact .ram _ _ inside

theorem effect_mbc3Latch {data : Byte} {s t : State} (h : exec (.mbc3Latch data) s = .next t) :
    Effect (.mbc3Latch data) s t := by
  cases wired : s.cfg.rtcWired with
  | false => exact .of_next (exec_mbc3Latch_unwired data s wired) (.answer _) h
  | true =>
    by_cases edge : s.rtc.lastLatch = true ∨ dataBit0 data = false
    · exact .of_next (exec_mbc3Latch_no_edge data s wired edge) (.rtc _ _ rfl rfl (by simp [wired])) h
    · obtain ⟨before, now1⟩ := not_or.mp edge
      rw [Bool.not_eq_true] at before
      rw [Bool.not_eq_false] at now1
      exact .of_next (exec_mbc3Latch_edge data s wired before now1) (.rtc _ _ rfl rfl (by simp [wired])) h


/-- Every transaction that goes on has one of these effects. -/
theorem effect_of_exec {i : Instr} {s t : State} (h : exec i s = .next t) : Effect i s t := by
  cases i with
  | rdRom0 off =>
    rw [readRom_next h]
    exact .answer _
  | rdRomx off =>
    rw [readRom_next h]
    exact .answer _
  | rdXram off =>
    obtain ⟨v, rfl⟩ := exec_rdXram_next h
    exact .answer _
  | wrXram off data => exact effect_wrXram h
  | rtcWrS data => exact .of_next (exec_rtcWrS data s) (.rtc _ _ rfl rfl fun _ => rfl) h
  | rtcWrM data => exact .of_next (exec_rtcWrM data s) (.rtc _ _ rfl rfl fun _ => rfl) h
  | rtcWrH data => exact .of_next (exec_rtcWrH data s) (.rtc _ _ rfl rfl fun _ => rfl) h
  | rtcWrDl data => exact .of_next (exec_rtcWrDl data s) (.rtc _ _ rfl rfl fun _ => rfl) h
  | rtcWrDh data => exact .of_next (exec_rtcWrDh data s) (.rtc _ _ rfl rfl fun _ => rfl) h
  | mbc3Latch data => exact effect_mbc3Latch h
  | txWrW data => exact .of_next (exec_txWrW data s) (.tx _ _ (.of_eq rfl rfl rfl) rfl rfl rfl) h
  | txWrH data => exact .of_next (exec_txWrH data s) (.tx _ _ (.of_eq rfl rfl rfl) rfl rfl rfl) h
  | txWrM data => exact .of_next (exec_txWrM data s) (.tx _ _ (.of_eq rfl rfl rfl) rfl rfl rfl) h
  | txWrS data => exact .of_next (exec_txWrS data s) (.tx _ _ (.of_eq rfl rfl rfl) rfl rfl rfl) h
  | mbc1Bank2 data =>
    cases mode : s.mapper.ramBankMode with
    | false => exact .of_next (exec_mbc1Bank2_rom data s mode) (.registers rfl rfl) h
    | true => exact .of_next (exec_mbc1Bank2_ram data s mode) (.registers rfl rfl) h
  | m64Bank1 data => exact .of_next (exec_m64Bank1 data s) (.registers rfl rfl) h
  | m64Bank2 data => exact .of_next (exec_m64Bank2 data s) (.registers rfl rfl) h
  | m64Mode data => exact .of_next (exec_m64Mode data s) (.registers rfl rfl) h
  | mbc3Ramen data => exact .of_next (exec_mbc3Ramen data s) (.registers rfl rfl) h
  | mbc3Ramb data => exact .of_next (exec_mbc3Ramb data s) (.registers rfl rfl) h
  | huc1Ramb data =>
    cases mode : s.mapper.ramBankMode with
    | false => exact .of_next (exec_huc1Ramb_rom data s mode) (.registers rfl rfl) h
    | true => exact .of_next (exec_huc1Ramb_ram data s mode) (.registers rfl rfl) h
  | tpp1Mr2 data => exact .of_next (exec_tpp1Mr2 data s) (.registers rfl rfl) h
  | tpp1Latch =>
    refine .of_next (exec_tpp1Latch s) (.tx _ _ ⟨.inr (.inr ⟨rfl, ?_⟩), .inl ?_, .inl ?_⟩ ?_ ?_ ?_) h <;>
      rw [txLatchAt_eq]
  | tpp1Settime => exact .of_next (exec_tpp1Settime s) (.tx _ _ (.of_eq rfl rfl rfl) rfl rfl rfl) h
  | tpp1Clrovf =>
    exact .of_next (exec_tpp1Clrovf s) (.tx _ _ ⟨.inr (.inl ⟨rfl, rfl⟩), .inl rfl, .inl rfl⟩ rfl rfl rfl) h
  | tpp1Halt =>
    cases runs : s.tx.running with
    | false => exact .of_next (exec_tpp1Halt_ignored s runs) (.answer _) h
    | true =>
      exact .of_next (exec_tpp1Halt_acts s runs) (.tx _ _ ⟨.inl rfl, .inr (.inl ⟨rfl, rfl⟩), .inl rfl⟩ rfl rfl rfl) h
  | tpp1Resume =>
    cases runs : s.tx.running with
    | false =>
      exact .of_next (exec_tpp1Resume_acts s runs) (.tx _ _ ⟨.inl rfl, .inr (.inr ⟨rfl, rfl⟩), .inl rfl⟩ rfl rfl rfl) h
    | true => exact .of_next (exec_tpp1Resume_ignored s runs) (.answer _) h
  | tpp1Rumble level =>
    exact .of_next (exec_tpp1Rumble level s) (.tx _ _ ⟨.inl rfl, .inl rfl, .inr rfl⟩ rfl rfl rfl) h
  | plainRamen | mbc1Ramen | m64Ramen | mbc2Ramen | huc1Ramen | mbc5Ramen | mbc1Bank1 | mbc1Mode | mbc2Romb | mbc3Romb
  | huc1Romb | huc1Mode | mbc5Romb0 | mbc5Romb1 | mbc5Ramb | tpp1Mr0 | tpp1Mr1 | tpp1Map0 | tpp1Map1 | tpp1Map2
  | tpp1Map3 =>
    injection h with h
    subst h
    exact .registers rfl rfl
  | _ =>
    injection h with h
    subst h
    exact .answer _

theorem Effect.txFlags {i : Instr} {s t : State} (h : Effect i s t) : TxFlags i s t.tx := by
  cases h with
  | registers write tx => rw [tx]; exact .of_eq rfl rfl rfl
  | tx x calls flags curmap enabled features => exact flags
  | answer | rtc | ram => exact .of_eq rfl rfl rfl

end Sys2Proof.Machine
end

section
/-! The flags of the TPP1 extension: which commands change overflow, running and rumble (spec/10_state.md R48, R50, R51). -/

namespace Sys2Proof

/-! ## The word of an MR3 command (spec/30_encoding.md R126, R130) -/

/-- A bit of a field whose value is known. -/
theorem getLsbD_of_extractLsb' {w start len : Nat} {x : BitVec w} {v : BitVec len} (field : x.extractLsb' start len = v)
    {i : Nat} (lt : i < len) : x.getLsbD (start + i) = v.getLsbD i := by
  rw [← field, BitVec.getLsbD_extractLsb', decide_eq_true lt, Bool.true_and]

/-- A part of a field whose value is known. -/
theorem extractLsb'_of_extractLsb' {w start len : Nat} {x : BitVec w} {v : BitVec len}
    (field : x.extractLsb' start len = v) {k n : Nat} (inside : k + n ≤ len) :
    x.extractLsb' (start + k) n = v.extractLsb' k n := by
  apply BitVec.eq_of_getLsbD_eq
  intro i lt
  rw [BitVec.getLsbD_extractLsb', BitVec.getLsbD_extractLsb', Nat.add_assoc, getLsbD_of_extractLsb' field (by omega)]

theorem getLsbD_tAddr (t : Word) {i : Nat} (lt : i < 16) : (tAddr t).getLsbD i = t.getLsbD (8 + i) :=
  (getLsbD_of_extractLsb' rfl lt).symm

/-- A field of the address is a field of the word. -/
theorem extractLsb'_tAddr (t : Word) {start len : Nat} (inside : start + len ≤ 16) :
    (tAddr t).extractLsb' start len = t.extractLsb' (8 + start) len :=
  (extractLsb'_of_extractLsb' rfl inside).symm

/-- A TPP1 write below `0x4000` at an address whose low bits are 3 is a command of MR3. -/
theorem decode_mr3 {m : DecodeMode} {t : Word} (tpp1 : m.variant = .tpp1) (region : t.extractLsb' 22 3 = 0b100#3)
    (register : t.extractLsb' 8 2 = 0b11#2) : decode m t = decodeMr3 (tData t) := by
  have write : tRw t = true := getLsbD_of_extractLsb' region (i := 2) (by decide)
  have bit15 : (tAddr t).getLsbD 15 = false :=
    (getLsbD_tAddr t (by decide)).trans (getLsbD_of_extractLsb' region (i := 1) (by decide))
  have bit14 : (tAddr t).getLsbD 14 = false :=
    (getLsbD_tAddr t (by decide)).trans (getLsbD_of_extractLsb' region (i := 0) (by decide))
  have mr3 : low2 (tAddr t) = 3#2 := (extractLsb'_tAddr t (by decide)).trans register
  rw [← pack_fields t, decode_pack_low m _ _ bit15, if_pos write, tData_pack, tpp1, decodeControl, decodeTpp1, bit14, mr3]
  rfl

/-- A command code whose upper six bits say rumble carries the level in its lower two. -/
theorem decodeMr3_of_rumble {code : Byte} (h : code.extractLsb' 2 6 = 0b001000#6) :
    decodeMr3 code = .tpp1Rumble (code.extractLsb' 0 2) := by
  have parts : code = 0b001000#6 ++ code.extractLsb' 0 2 := by
    have whole := BitVec.extractLsb'_append_extractLsb'_eq_extractLsb' (x := code) (show 2 = 0 + 2 from rfl) (len₂ := 6)
    rw [← h]
    exact (BitVec.extractLsb'_eq_self (x := code)).symm.trans whole.symm
  conv_lhs => rw [parts]
  exact decodeMr3_rumble _

end Sys2Proof

namespace Sys2Proof.Machine

theorem tx_overflow_tpp1Latch {s t : State} (h : exec .tpp1Latch s = .next t) :
    t.tx.overflow = (s.tx.overflow || decide (154828800 ≤ (txElapsed (now s) s.tx).toNat)) := by
  rw [exec_tpp1Latch, txLatchAt_eq] at h
  injection h with h
  rw [← h]

/-- Settles O27: of all effects only those of the latch and of command `0x14` move the flag. -/
theorem overflowIsSticky : Obligations.OverflowIsSticky := by
  refine ⟨exec_tpp1Clrovf, fun m t tpp1 region register code => ?_, fun i s t h => ⟨fun set cleared => ?_,
    fun clear raised => ?_⟩, fun s period => ⟨_, exec_tpp1Latch s, ?_⟩⟩
  · rw [decode_mr3 tpp1 region register, show tData t = 0x14#8 from code]
    rfl
  · rcases (effect_of_exec h).txFlags.overflow with kept | ⟨rfl, -⟩ | ⟨-, latched⟩
    · simp [kept, set] at cleared
    · rfl
    · simp [latched, set] at cleared
  · rcases (effect_of_exec h).txFlags.overflow with kept | ⟨-, off⟩ | ⟨rfl, latched⟩
    · simp [kept, clear] at raised
    · simp [off] at raised
    · exact ⟨rfl, by simpa [latched, clear] using raised⟩
  · rw [tx_overflow_tpp1Latch (exec_tpp1Latch s), decide_eq_true period, Bool.or_true]

/-- Settles O28: of all effects only those of halt and resume move `running`, and each leaves its value whether it acts or
finds the clock so already. -/
theorem runningChangedOnlyByHaltAndResume : Obligations.RunningChangedOnlyByHaltAndResume := by
  refine ⟨fun i s t h changed => ((effect_of_exec h).txFlags.running).resolve_left changed, fun s => ?_⟩
  cases runs : s.tx.running with
  | false => exact ⟨⟨_, exec_tpp1Halt_ignored s runs, runs⟩, ⟨_, exec_tpp1Resume_acts s runs, rfl⟩⟩
  | true => exact ⟨⟨_, exec_tpp1Halt_acts s runs, rfl⟩, ⟨_, exec_tpp1Resume_ignored s runs, runs⟩⟩

/-- Settles O29: of all effects only that of the rumble command moves the level. -/
theorem rumbleLevel : Obligations.RumbleLevel := by
  refine ⟨fun s level => exec_tpp1Rumble level s, fun m t tpp1 region register code => ?_,
    fun i s t h changed => ((effect_of_exec h).txFlags.rumble).resolve_left changed⟩
  have upper : (tData t).extractLsb' 2 6 = 0b001000#6 := (BitVec.extractLsb'_extractLsb'_of_le (by decide)).trans code
  have lower : (tData t).extractLsb' 0 2 = t.extractLsb' 0 2 := BitVec.extractLsb'_extractLsb'_of_le (by decide)
  rw [decode_mr3 tpp1 region register, decodeMr3_of_rumble upper, lower]

end Sys2Proof.Machine
end

section
/-! The windows and the clock selection as a function of the registers (spec/10_state.md R31, R32, R42, R52), and the state
after reset and after a load (spec/10_state.md R60, spec/70_reset_and_hazards.md R370, R371). -/

namespace Sys2Proof.Machine

/-! ## The windows stay inside the images -/

theorem maskRom_lt {c : Cfg} (legal : c.legal = true) (bank : RomBank) : (maskRom c bank).toNat < c.rombanks := by
  obtain ⟨-, two, -⟩ := (Cfg.legal_iff c).mp legal
  rw [maskRom_toNat c bank legal]
  exact Nat.mod_lt _ (by omega)

theorem effRam_lt {c : Cfg} (legal : c.legal = true) (ram : 0 < c.rambanks) (bank : RamBank) :
    (effRam c bank).toNat < c.rambanks := by
  rw [effRam_toNat c bank legal, ramBankNumber, if_neg ram.ne']
  exact Nat.mod_lt _ ram

/-- The sub-cart of MBC1-Multi64 and its adjusted bank are among its 64 banks (spec/44_mbc1_multi64.md R254). -/
theorem adjusted_toMulti64_lt (bank : RomBank) : (adjusted (toMulti64 bank)).toNat < 64 := by
  rw [adjusted_toNat, adjustedNumber, toMulti64_toNat]
  split <;> omega

theorem subcart_lt (bank : RomBank) : (toMulti64 bank &&& 0x30#16).toNat < 64 := by
  rw [toMulti64_subcart_toNat]
  omega

/-- Both ROM windows `sync()` leaves are aimed at banks of the image. -/
theorem windowsOf_rom_lt {c : Cfg} (legal : c.legal = true) (m : Mapper) :
    (windowsOf c m).rom0.toNat < c.rombanks ∧ (windowsOf c m).rom.toNat < c.rombanks := by
  obtain ⟨-, two, -, -, m64, -⟩ := (Cfg.legal_iff c).mp legal
  have zero : (0#16).toNat < c.rombanks := by
    rw [BitVec.toNat_ofNat]
    omega
  unfold windowsOf
  cases variant : c.variant with
  | mbc1m64 =>
    obtain ⟨banks, -⟩ := m64 variant
    cases m.ramBankMode with
    | false => exact ⟨zero, maskRom_lt legal _⟩
    | true => exact banks ▸ ⟨subcart_lt _, adjusted_toMulti64_lt _⟩
  | tpp1 =>
    unfold tpp1Windows
    split_ifs <;> exact ⟨zero, maskRom_lt legal _⟩
  | _ => exact ⟨zero, maskRom_lt legal _⟩

/-- The RAM window `sync()` leaves is aimed at a bank of the image, if there is RAM. -/
theorem windowsOf_ram_lt {c : Cfg} (legal : c.legal = true) (ram : 0 < c.rambanks) (m : Mapper) :
    (windowsOf c m).ram.toNat < c.rambanks := by
  unfold windowsOf
  cases c.variant with
  | mbc1m64 => cases m.ramBankMode <;> exact ram
  | huc1 => cases m.ramBankMode with
    | false => exact ram
    | true => exact effRam_lt legal ram _
  | tpp1 =>
    unfold tpp1Windows
    split_ifs <;> exact effRam_lt legal ram _
  | _ => exact effRam_lt legal ram _

theorem romIndex_lt {c : Cfg} {bank : RomBank} (lt : bank.toNat < c.rombanks) (off : BitVec 14) :
    romIndex bank off < c.romSize := by
  have := off.isLt
  unfold romIndex Cfg.romSize
  omega

theorem ramIndex_lt {c : Cfg} {bank : RamBank} (lt : bank.toNat < c.rambanks) (off : BitVec 13) :
    ramIndex bank off < c.ramSize := by
  have := off.isLt
  unfold ramIndex Cfg.ramSize
  omega

/-- Settles O47: the windows are `windowsOf`, whose banks are inside the images. -/
theorem windowsStayInsideImages : Obligations.WindowsStayInsideImages := by
  intro s inv
  rw [inv.win_eq]
  obtain ⟨rom0, rom⟩ := windowsOf_rom_lt inv.cfg s.mapper
  exact ⟨rom0, rom, fun ram => windowsOf_ram_lt inv.cfg ram s.mapper, romIndex_lt rom⟩

/-! ## The clock selection -/

/-- A wired clock is an MBC3, so the selection follows the RAM bank register (R42). -/
theorem Invariant.rtc_selection {s : State} (inv : Invariant s) (wired : s.cfg.rtcWired = true) :
    s.rtc.active = (rtcRegOf s.mapper.rambank).isSome ∧ s.rtc.index = (rtcRegOf s.mapper.rambank).getD .s := by
  obtain ⟨-, -, -, mbc3, -⟩ := (Cfg.legal_iff s.cfg).mp inv.cfg
  obtain ⟨-, selection, -⟩ := (sync_fixed_iff s).mp inv.windows
  rw [selectionOf, if_pos ⟨mbc3 wired, wired⟩] at selection
  exact ⟨congrArg Rtc.active selection, congrArg Rtc.index selection⟩

/-- Settles O48: the window and selection invariants give each of them from configuration and mapper registers. -/
theorem windowsAreFunctionOfRegisters : Obligations.WindowsAreFunctionOfRegisters := by
  intro s u invS invU cfg mapper
  refine ⟨?_, ?_, fun wired => ?_⟩
  · rw [invS.win_eq, invU.win_eq, cfg, mapper]
  · rw [invS.tx.curmap, invU.tx.curmap, mapper]
  · obtain ⟨activeS, indexS⟩ := invS.rtc_selection wired
    obtain ⟨activeU, indexU⟩ := invU.rtc_selection (cfg ▸ wired)
    exact ⟨by rw [activeS, activeU, mapper], by rw [indexS, indexU, mapper]⟩

/-! ## Reset -/

theorem maskRom_one {c : Cfg} (legal : c.legal = true) : maskRom c 1#16 = 1#16 := by
  obtain ⟨-, two, -⟩ := (Cfg.legal_iff c).mp legal
  apply BitVec.eq_of_toNat_eq
  rw [maskRom_toNat c _ legal]
  exact Nat.mod_eq_of_lt two

theorem effRam_zero (c : Cfg) : effRam c 0#8 = 0#8 := by
  unfold effRam
  split
  · rfl
  · exact BitVec.zero_and

/-- The windows of the reset table are where `sync()` puts them (R371). -/
theorem windowsOf_reset {c : Cfg} (legal : c.legal = true) : windowsOf c Mapper.reset = Windows.reset c.variant := by
  have rom := maskRom_one legal
  have ram := effRam_zero c
  have noClock : (rtcRegOf 0#8).isSome = false := rfl
  unfold windowsOf
  cases variant : c.variant with
  | plain | mbc2 | mbc5 =>
    simp only [Mapper.reset, rom, ram]
    rfl
  | mbc1 | mbc1m64 =>
    simp only [Mapper.reset, show adjusted 1#16 = 1#16 from rfl, rom, ram]
    rfl
  | mbc3 =>
    simp only [Mapper.reset, show zeroToOne 1#16 = 1#16 from rfl, rom, ram, noClock, Bool.and_false]
    rfl
  | huc1 =>
    simp only [show huc1RomBank Mapper.reset = 1#16 from rfl, rom]
    rfl
  | tpp1 =>
    simp only [tpp1Windows, Mapper.reset, rom, ram]
    rfl

theorem selectionOf_reset (c : Cfg) : selectionOf c Mapper.reset Rtc.reset = Rtc.reset := by
  unfold selectionOf
  split <;> rfl

theorem curmapOf_reset (c : Cfg) : curmapOf c Mapper.reset (Tx.reset c) = Tx.reset c := by
  unfold curmapOf
  split <;> rfl

theorem legal_mapperReset (v : Variant) : Mapper.reset.Legal v where
  rombank := by cases v <;> rfl
  rambank := by cases v <;> rfl
  enableRam _ := rfl
  ramBankMode _ := rfl
  mapmode _ := rfl

/-- Settles O45: the registers and images are legal as the reset table gives them, and `windowsOf_reset`. -/
theorem everyResetMeetsInvariant : Obligations.EveryResetMeetsInvariant := by
  intro c rom legal fits
  exact {
    cfg := legal
    mapper := legal_mapperReset _
    rtc := ⟨fun _ => rfl, fun _ => rfl⟩
    tx := ⟨rfl, rfl, rfl⟩
    ram := ⟨rfl, rfl⟩
    rom := fits
    windows := (sync_fixed_iff _).mpr
      ⟨(windowsOf_reset legal).symm, (selectionOf_reset c).symm, (curmapOf_reset c).symm⟩
    requests := fun _ waiting => nomatch waiting }

/-- Settles O44: `State.reset` is the reset of a legal configuration. -/
theorem resetMeetsInvariant : Obligations.ResetMeetsInvariant :=
  everyResetMeetsInvariant Config.resetCfg [] (by decide) ⟨rfl, rfl⟩

/-! ## Load -/

/-- The six steps of R370 leave the reset state of the configuration; the host clock, the model's counters and the requests
that wait stay. -/
theorem install_eq {c : Cfg} (legal : c.legal = true) (bytes : List Byte) (s : State) :
    install c bytes s = { State.resetFor c (Memory.ofBytes romBlank 0 bytes) with
      hostNow := s.hostNow, nowCalls := s.nowCalls, freeUses := s.freeUses, queue := s.queue, answer := s.answer } := by
  have tx : (constructMapper (fillRom bytes (clearClocks (mpReset { s with cfg := c, live := true })))).tx =
      Tx.reset c := by
    by_cases tpp1 : c.variant = .tpp1 <;> simp [constructMapper, fillRom, clearClocks, mpReset, Tx.reset, tpp1]
  rw [install, sync_eq, tx]
  simp only [constructMapper, fillRom, clearClocks, mpReset, windowsOf_reset legal, selectionOf_reset, curmapOf_reset]
  rfl

/-- A load runs also after tear-down (R364). -/
theorem runHostOp_loadRom (bytes : List Byte) (forceDmg multicartCompat : Bool) (s : State) :
    runHostOp (.loadRom bytes forceDmg multicartCompat) s = loadRom bytes forceDmg multicartCompat s := by
  unfold runHostOp
  cases s.live <;> rfl

/-- A load whose checks pass. -/
theorem loadRom_ok {bytes : List Byte} {v : Variant} (check : checkRom bytes = .ok v) (forceDmg multicartCompat : Bool)
    (s : State) :
    loadRom bytes forceDmg multicartCompat s = .next {
      State.resetFor (cfgOf v bytes multicartCompat s.cfg) (Memory.ofBytes romBlank 0 bytes) with
      hostNow := s.hostNow, nowCalls := s.nowCalls, freeUses := s.freeUses, queue := s.queue
      answer := .loaded (cgbFlag bytes forceDmg) } := by
  rw [loadRom, check]
  simp only [install_eq (cfgOf_legal check)]
  rfl

/-- Settles O50: a load is a reset with the configuration and the image of the file. -/
theorem loadRomResetsTheBlock : Obligations.LoadRomResetsTheBlock := by
  rintro s bytes forceDmg multicartCompat rest v c queue check rfl
  refine ⟨_, (step_of_queue_cons queue).trans ((runHostOp_loadRom ..).trans (loadRom_ok check ..)), rfl, rfl, rfl, rfl, rfl,
    fun i => rfl, fun i => ?_, rfl, rfl, rfl, rfl, rfl, rfl⟩
  exact Memory.read_ofBytes romBlank 0 bytes i

end Sys2Proof.Machine
end

section
/-! Reads and writes through the RAM window (spec/40_window_access.md R156, R157), and the rows that state selects there
(spec/30_encoding.md R133). -/

namespace Sys2Proof

/-! ## Words of the RAM window -/

/-- A read at `0xA000..0xBFFF`. -/
theorem decode_xramRead {m : DecodeMode} {t : Word} (window : t.extractLsb' 21 4 = 0b0101#4) :
    decode m t = decodeRdXram m (tAddr t) := by
  have read : tRw t = false := getLsbD_of_extractLsb' window (i := 3) (by decide)
  have top3 : (tAddr t).extractLsb' 13 3 = 0b101#3 :=
    (extractLsb'_tAddr t (by decide)).trans (extractLsb'_of_extractLsb' window (k := 0) (by decide))
  rw [← pack_fields t, decode_pack_xram m _ _ top3, read, tAddr_pack]
  rfl

/-- A write at `0xA000..0xBFFF`. -/
theorem decode_xramWrite {m : DecodeMode} {t : Word} (window : t.extractLsb' 21 4 = 0b1101#4) :
    decode m t = decodeWrXram m (tAddr t) (tData t) := by
  have write : tRw t = true := getLsbD_of_extractLsb' window (i := 3) (by decide)
  have top3 : (tAddr t).extractLsb' 13 3 = 0b101#3 :=
    (extractLsb'_tAddr t (by decide)).trans (extractLsb'_of_extractLsb' window (k := 0) (by decide))
  rw [← pack_fields t, decode_pack_xram m _ _ top3, write, tAddr_pack, tData_pack]
  rfl

end Sys2Proof

namespace Sys2Proof.Machine

/-! ## What a read of the RAM window returns -/

theorem exec_rdXram_closed (off : BitVec 13) (s : State) (h : s.win.re = false) :
    exec (.rdXram off) s = .next { s with answer := .byte 0xFF#8 } := by
  simp only [exec, execRdXram, h]
  rfl

theorem exec_rdXram_rtc (off : BitVec 13) (s : State) (h : s.win.re = true) (clock : s.win.rtcEn = true)
    (rtc : s.cfg.variant ≠ .tpp1) : exec (.rdXram off) s = .next { s with answer := .byte (rtcRead s.rtc) } := by
  simp only [exec, execRdXram, h, clock, readClockPath, rtc]
  rfl

theorem exec_rdXram_txMr (off : BitVec 13) (s : State) (h : s.win.re = true) (clock : s.win.rtcEn = true)
    (tx : s.cfg.variant = .tpp1) (map : s.tx.curmap = 0#2) :
    exec (.rdXram off) s = .next { s with answer := .byte (txReadMr (offLow2 off) s) } := by
  simp only [exec, execRdXram, h, clock, readClockPath, tx, txRead, map]
  rfl

theorem exec_rdXram_txClock (off : BitVec 13) (s : State) (h : s.win.re = true) (clock : s.win.rtcEn = true)
    (tx : s.cfg.variant = .tpp1) (map : s.tx.curmap = 3#2) :
    exec (.rdXram off) s = .next { s with answer := .byte (txReadClock (offLow2 off) s) } := by
  simp only [exec, execRdXram, h, clock, readClockPath, tx, txRead, map]
  rfl

theorem exec_rdXram_ram (off : BitVec 13) (s : State) (h : s.win.re = true) (ram : s.win.rtcEn = false) :
    exec (.rdXram off) s = readRam off s := by
  rw [exec, execRdXram, h, ram, if_neg (by decide), if_neg (by decide)]

/-- MR0 to MR3 by the offset modulo 4, as numbers (spec/42_tpp1_extension.md R201). -/
theorem txReadMr_offLow2 (off : BitVec 13) (s : State) :
    txReadMr (offLow2 off) s =
      if off.toNat % 4 = 0 then BitVec.ofNat 8 (s.mapper.rombank.toNat % 256)
      else if off.toNat % 4 = 1 then BitVec.ofNat 8 (s.mapper.rombank.toNat / 256)
      else if off.toNat % 4 = 2 then s.mapper.rambank
      else BitVec.ofNat 8 (0xF0 + 8 * bit s.tx.overflow + 4 * bit s.tx.running + s.tx.rumble.toNat) := by
  have low : s.mapper.rombank.extractLsb' 0 8 = BitVec.ofNat 8 (s.mapper.rombank.toNat % 256) := by
    apply BitVec.eq_of_toNat_eq
    simp
  have high : s.mapper.rombank.extractLsb' 8 8 = BitVec.ofNat 8 (s.mapper.rombank.toNat / 256) := by
    rw [BitVec.extractLsb', Nat.shiftRight_eq_div_pow]
  have status : txStatus s.tx = BitVec.ofNat 8 (txStatus s.tx).toNat :=
    ((BitVec.ofNat_toNat ..).trans (BitVec.setWidth_eq _)).symm
  rw [txStatus_toNat] at status
  rw [txReadMr, low, high, status]
  simp only [offLow2_eq_iff off 0 (by decide), offLow2_eq_iff off 1 (by decide), offLow2_eq_iff off 2 (by decide)]

/-- W, H, M, S by the offset modulo 4 (R202). -/
theorem txReadClock_offLow2 (off : BitVec 13) (s : State) :
    txReadClock (offLow2 off) s =
      if off.toNat % 4 = 0 then s.tx.w else if off.toNat % 4 = 1 then s.tx.h
      else if off.toNat % 4 = 2 then s.tx.m else s.tx.s := by
  simp only [txReadClock, offLow2_eq_iff off 0 (by decide), offLow2_eq_iff off 1 (by decide),
    offLow2_eq_iff off 2 (by decide)]

/-- The MBC3 clock shows the register that the RAM bank names (R42, R171). -/
theorem rtcRead_of_rambank {bank : RamBank} {r : Rtc} (h : rtcRegOf bank = some r.index) :
    rtcRead r =
      if bank.toNat = 0x08 then r.s else if bank.toNat = 0x09 then r.m else if bank.toNat = 0x0A then r.h
      else if bank.toNat = 0x0B then r.dl else r.dh := by
  unfold rtcRead
  rcases rtcRegOf_eq_some h with ⟨rfl, index⟩ | ⟨rfl, index⟩ | ⟨rfl, index⟩ | ⟨rfl, index⟩ | ⟨rfl, index⟩ <;>
    rw [index] <;> rfl

/-- With RAM, every access through the window is inside the image (spec/10_state.md R32). -/
theorem Invariant.ram_inside {s : State} (inv : Invariant s) (ram : s.cfg.rambanks ≠ 0) (off : BitVec 13) :
    ramIndex s.win.ram off < s.cfg.ramSize :=
  ramIndex_lt (inv.win_eq ▸ windowsOf_ram_lt inv.cfg (Nat.pos_of_ne_zero ram) s.mapper) off

/-- Settles O9: the tests of R156 in their order; where the clock path is open, the invariant says what it shows. -/
theorem ramWindowRead : Obligations.RamWindowRead := by
  intro s off inv
  cases re : s.win.re with
  | false => exact exec_rdXram_closed off s re
  | true =>
    rw [if_neg Bool.noConfusion]
    cases clock : s.win.rtcEn with
    | false =>
      rw [if_neg Bool.noConfusion, exec_rdXram_ram off s re clock]
      by_cases ram : s.cfg.rambanks = 0
      · rw [if_pos ram, readRam_none ram]
      · rw [if_neg ram, readRam_inside ram (inv.ram_inside ram off)]
        rfl
    | true =>
      rw [if_pos rfl]
      rcases inv.clock_path clock with ⟨tpp1, curmap, ⟨mode, -⟩ | ⟨mode, -⟩⟩ | ⟨mbc3, -, -, register⟩
      · rw [if_pos tpp1, if_pos mode, exec_rdXram_txMr off s re clock tpp1 (curmap.trans mode), txReadMr_offLow2]
      · rw [if_pos tpp1, if_neg (by rw [mode]; decide),
          exec_rdXram_txClock off s re clock tpp1 (curmap.trans mode), txReadClock_offLow2]
      · have other : s.cfg.variant ≠ .tpp1 := by rw [mbc3]; decide
        rw [if_neg other, exec_rdXram_rtc off s re clock other, rtcRead_of_rambank register]

/-! ## What a write through the RAM window does -/

theorem sameImages_of_eq {s t : State} (rom : t.rom = s.rom) (ram : t.ram = s.ram) : SameImages s t :=
  fun i => ⟨congrArg (Memory.read romBlank · i) rom, congrArg (Memory.read ramBlank · i) ram⟩

/-- A write to the TX path in map mode 3 stores the byte in W, H, M or S by the offset modulo 4 (R203). -/
theorem exec_txWriteRow_offLow2 (off : BitVec 13) (data : Byte) (s : State) (map : s.tx.curmap = 3#2) :
    exec (txWriteRow (offLow2 off) data) s = .next { s with
      tx := (if off.toNat % 4 = 0 then { s.tx with w := data }
        else if off.toNat % 4 = 1 then { s.tx with h := data }
        else if off.toNat % 4 = 2 then { s.tx with m := data }
        else { s.tx with s := data })
      answer := .done } := by
  simp only [txWriteRow, offLow2_eq_iff off 0 (by decide), offLow2_eq_iff off 1 (by decide),
    offLow2_eq_iff off 2 (by decide)]
  split
  · rw [exec_txWrW, if_pos map]
  split
  · rw [exec_txWrH, if_pos map]
  split
  · rw [exec_txWrM, if_pos map]
  · rw [exec_txWrS, if_pos map]

/-- The MBC3 row a write runs is the one of the register that the RAM bank names (R42, R171). -/
theorem clockWriteRow_of_rambank {bank : RamBank} {r : RtcReg} (h : rtcRegOf bank = some r) (data : Byte) :
    clockWriteRow r data =
      if bank.toNat = 0x08 then .rtcWrS data else if bank.toNat = 0x09 then .rtcWrM data
      else if bank.toNat = 0x0A then .rtcWrH data else if bank.toNat = 0x0B then .rtcWrDl data else .rtcWrDh data := by
  rcases rtcRegOf_eq_some h with ⟨rfl, rfl⟩ | ⟨rfl, rfl⟩ | ⟨rfl, rfl⟩ | ⟨rfl, rfl⟩ | ⟨rfl, rfl⟩ <;> rfl

/-- Where an open window in a TPP1 lets writes to the clock path, the map mode is 3. -/
theorem Invariant.curmap_of_write {s : State} (inv : Invariant s) (we : s.win.we = true) (clock : s.win.rtcEn = true)
    (tpp1 : s.cfg.variant = .tpp1) : s.tx.curmap = 3#2 := by
  rcases inv.clock_path clock with ⟨-, curmap, ⟨-, closed⟩ | ⟨mode, -⟩⟩ | ⟨mbc3, -⟩
  · rw [closed] at we
    nomatch we
  · exact curmap.trans mode
  · rw [mbc3] at tpp1
    nomatch tpp1

/-- Where the clock path of another variant is open, the RAM bank names the register selected. -/
theorem Invariant.rtcRegOf_rambank {s : State} (inv : Invariant s) (clock : s.win.rtcEn = true)
    (other : s.cfg.variant ≠ .tpp1) : rtcRegOf s.mapper.rambank = some s.rtc.index := by
  rcases inv.clock_path clock with ⟨tpp1, -⟩ | ⟨-, -, -, register⟩
  · exact absurd tpp1 other
  · exact register

theorem wrXram_completes {s : State} (inv : Invariant s) (off : BitVec 13) (data : Byte) :
    ∃ t, exec (.wrXram off data) s = .next t := by
  cases we : s.win.we with
  | false => exact ⟨_, exec_wrXram_closed off data s we⟩
  | true =>
    cases clock : s.win.rtcEn with
    | false =>
      rw [exec_wrXram_ram off data s we clock]
      by_cases ram : s.cfg.rambanks = 0
      · exact ⟨_, writeRam_none ram⟩
      · exact ⟨_, writeRam_inside ram (inv.ram_inside ram off)⟩
    | true =>
      by_cases tpp1 : s.cfg.variant = .tpp1
      · obtain ⟨x, done, -⟩ := exec_txWriteRow (offLow2 off) data s
        exact ⟨_, (exec_wrXram_tx off data s we clock tpp1).trans done⟩
      · obtain ⟨c, done, -⟩ := exec_clockWriteRow s.rtc.index data s
        exact ⟨_, (exec_wrXram_rtc off data s we clock tpp1).trans done⟩

/-- Settles O10: the tests of R157 in their order, each clause from the rule of its path. -/
theorem ramWindowWrite : Obligations.RamWindowWrite := by
  intro s off data inv
  obtain ⟨t, next⟩ := wrXram_completes inv off data
  refine ⟨t, next, fun we => ?closed, fun we clock tpp1 => ?tx, fun we clock other => ?rtc,
    fun we path noRam => ?noRam, fun we path ram => ?ram⟩
  case closed =>
    rw [exec_wrXram_closed off data s we] at next
    injection next with next
    subst next
    exact ⟨⟨rfl, sameImages_of_eq rfl rfl⟩, rfl⟩
  case tx =>
    rw [exec_wrXram_tx off data s we clock tpp1,
      exec_txWriteRow_offLow2 off data s (inv.curmap_of_write we clock tpp1)] at next
    injection next with next
    subst next
    exact ⟨⟨rfl, sameImages_of_eq rfl rfl⟩, rfl, rfl⟩
  case rtc =>
    rw [exec_wrXram_rtc off data s we clock other] at next
    refine ⟨?_, clockWriteRow_of_rambank (inv.rtcRegOf_rambank clock other) data ▸ next⟩
    obtain ⟨c, done, -⟩ := exec_clockWriteRow s.rtc.index data s
    rw [done] at next
    injection next with next
    subst next
    exact ⟨rfl, sameImages_of_eq rfl rfl⟩
  case noRam =>
    rw [exec_wrXram_ram off data s we path, writeRam_none noRam] at next
    injection next with next
    subst next
    exact ⟨⟨rfl, sameImages_of_eq rfl rfl⟩, rfl⟩
  case ram =>
    rw [exec_wrXram_ram off data s we path, writeRam_inside ram (inv.ram_inside ram off)] at next
    injection next with next
    subst next
    exact ⟨rfl, rfl, inv.ram_inside ram off, Memory.read_write_same inv.ram.canonical _ data,
      fun i ne => Memory.read_write_other ramBlank s.ram _ i data ne, fun i => rfl⟩

/-! ## The rows that state selects -/

theorem exec_decodeRtcRd (s : State) :
    exec (decodeRtcRd s.rtc.index) s = .next { s with answer := .byte (rtcRead s.rtc) } := by
  unfold decodeRtcRd rtcRead
  cases s.rtc.index <;> rfl

theorem decodeRtcWr_eq (r : RtcReg) (data : Byte) : decodeRtcWr r data = clockWriteRow r data := by
  cases r <;> rfl

theorem exec_decodeTxRdMr (k : BitVec 2) (s : State) :
    exec (decodeTxRdMr k) s = .next { s with answer := .byte (txReadMr k s) } := by
  have values : k = 0#2 ∨ k = 1#2 ∨ k = 2#2 ∨ k = 3#2 := by revert k; decide
  rcases values with rfl | rfl | rfl | rfl <;> rfl

theorem exec_decodeTxRdClock (k : BitVec 2) (s : State) :
    exec (decodeTxRdClock k) s = .next { s with answer := .byte (txReadClock k s) } := by
  have values : k = 0#2 ∨ k = 1#2 ∨ k = 2#2 ∨ k = 3#2 := by revert k; decide
  rcases values with rfl | rfl | rfl | rfl <;> rfl

/-- What the RAM window shows when a read is decoded to a row of its own. -/
theorem readsRtc_decodeMode {s : State} (h : (decodeMode s).readsRtc = true) :
    s.win.re = true ∧ s.win.rtcEn = true ∧ s.cfg.variant ≠ .tpp1 := by
  simp only [DecodeMode.readsRtc, decodeMode, Bool.and_eq_true, beq_iff_eq] at h
  obtain ⟨⟨⟨mbc3, -⟩, re⟩, clock⟩ := h
  exact ⟨re, clock, by rw [mbc3]; decide⟩

theorem readsTx_decodeMode {s : State} {k : BitVec 2} (h : (decodeMode s).readsTx k = true) :
    s.win.re = true ∧ s.win.rtcEn = true ∧ s.cfg.variant = .tpp1 ∧ s.tx.curmap = k := by
  simp only [DecodeMode.readsTx, decodeMode, Bool.and_eq_true, beq_iff_eq] at h
  obtain ⟨⟨⟨tpp1, re⟩, clock⟩, map⟩ := h
  exact ⟨re, clock, tpp1, map⟩

theorem writesRtc_decodeMode {s : State} (h : (decodeMode s).writesRtc = true) :
    s.win.we = true ∧ s.win.rtcEn = true ∧ s.cfg.variant ≠ .tpp1 := by
  simp only [DecodeMode.writesRtc, decodeMode, Bool.and_eq_true, beq_iff_eq] at h
  obtain ⟨⟨⟨mbc3, -⟩, we⟩, clock⟩ := h
  exact ⟨we, clock, by rw [mbc3]; decide⟩

theorem writesTx_decodeMode {s : State} (h : (decodeMode s).writesTx = true) :
    s.win.we = true ∧ s.win.rtcEn = true ∧ s.cfg.variant = .tpp1 := by
  simp only [DecodeMode.writesTx, decodeMode, Bool.and_eq_true, beq_iff_eq] at h
  obtain ⟨⟨⟨tpp1, we⟩, clock⟩, -⟩ := h
  exact ⟨we, clock, tpp1⟩

/-- Every row a RAM-window read decodes to does what R156 says of the window. -/
theorem exec_decodeRdXram (s : State) (a : Addr) :
    exec (decodeRdXram (decodeMode s) a) s = exec (.rdXram (a.extractLsb' 0 13)) s := by
  have low : low2 a = offLow2 (a.extractLsb' 0 13) := (BitVec.extractLsb'_extractLsb'_of_le (by decide)).symm
  refine decodeRdXram_ind (fun i => exec i s = _) _ a (fun rtc => ?_) (fun mr => ?_) (fun clock => ?_) (fun _ _ _ => rfl)
  · obtain ⟨re, clock, other⟩ := readsRtc_decodeMode rtc
    exact (exec_decodeRtcRd s).trans (exec_rdXram_rtc _ s re clock other).symm
  · obtain ⟨re, clock, tpp1, map⟩ := readsTx_decodeMode mr
    rw [exec_decodeTxRdMr, low, exec_rdXram_txMr _ s re clock tpp1 map]
  · obtain ⟨re, clock, tpp1, map⟩ := readsTx_decodeMode clock
    rw [exec_decodeTxRdClock, low, exec_rdXram_txClock _ s re clock tpp1 map]

/-- Every row a RAM-window write decodes to does what R157 says of the window. -/
theorem exec_decodeWrXram (s : State) (a : Addr) (data : Byte) :
    exec (decodeWrXram (decodeMode s) a data) s = exec (.wrXram (a.extractLsb' 0 13) data) s := by
  have low : low2 a = offLow2 (a.extractLsb' 0 13) := (BitVec.extractLsb'_extractLsb'_of_le (by decide)).symm
  refine decodeWrXram_ind (fun i => exec i s = _) _ a data (fun rtc => ?_) (fun tx => ?_) (fun _ _ => rfl)
  · obtain ⟨we, clock, other⟩ := writesRtc_decodeMode rtc
    rw [decodeRtcWr_eq, exec_wrXram_rtc _ data s we clock other]
    rfl
  · obtain ⟨we, clock, tpp1⟩ := writesTx_decodeMode tx
    rw [exec_wrXram_tx _ data s we clock tpp1, ← low]
    rfl

/-- The clock register a RAM bank selects, by its number less 8 (R40, R42). -/
theorem rtcRegOf_index {bank : RamBank} (h : (rtcRegOf bank).isSome = true) :
    ((rtcRegOf bank).getD .s = .s ↔ bank.toNat - 8 = 0) ∧ ((rtcRegOf bank).getD .s = .m ↔ bank.toNat - 8 = 1) ∧
      ((rtcRegOf bank).getD .s = .h ↔ bank.toNat - 8 = 2) ∧ ((rtcRegOf bank).getD .s = .dl ↔ bank.toNat - 8 = 3) ∧
      ((rtcRegOf bank).getD .s = .dh ↔ bank.toNat - 8 = 4) := by
  obtain ⟨r, named⟩ := Option.isSome_iff_exists.mp h
  rcases rtcRegOf_eq_some named with ⟨rfl, rfl⟩ | ⟨rfl, rfl⟩ | ⟨rfl, rfl⟩ | ⟨rfl, rfl⟩ | ⟨rfl, rfl⟩ <;> decide

/-- Settles O15: the decoder reads the same state as the window rules; the selection follows the RAM bank register. -/
theorem stateSelectedRowsAgree : Obligations.StateSelectedRowsAgree := by
  refine ⟨fun s t _ window => ?_, fun s t _ window => ?_, fun s inv wired => ?_⟩
  · rw [decode_xramRead window, exec_decodeRdXram, extractLsb'_tAddr t (by decide)]
  · rw [decode_xramWrite window, exec_decodeWrXram, extractLsb'_tAddr t (by decide)]
  · obtain ⟨active, index⟩ := inv.rtc_selection wired
    rw [active, index]
    exact ⟨rtcRegOf_isSome _, rtcRegOf_index⟩

end Sys2Proof.Machine
end

section
/-! Control-register writes in a state of the invariant: the registers stay legal and the windows follow them
(spec/10_state.md R23 to R27, R31). -/

namespace Sys2Proof.Machine

/-! ## The registers stay in their ranges -/

section
variable {v : Variant} {m : Mapper}

theorem Mapper.Legal.setRombank (legal : m.Legal v) {bank : RomBank} (h : rombankLegal v bank = true) :
    Mapper.Legal v { m with rombank := bank } := { legal with rombank := h }

theorem Mapper.Legal.setRambank (legal : m.Legal v) {bank : RamBank} (h : rambankLegal v bank = true) :
    Mapper.Legal v { m with rambank := bank } := { legal with rambank := h }

theorem Mapper.Legal.setEnableRam (legal : m.Legal v) (enable : Bool) (other : v ≠ .tpp1) :
    Mapper.Legal v { m with enableRam := enable } := { legal with enableRam := fun tpp1 => absurd tpp1 other }

theorem Mapper.Legal.setRamBankMode (legal : m.Legal v) (mode : Bool) (h : hasModeRegister v = true) :
    Mapper.Legal v { m with ramBankMode := mode } :=
  { legal with ramBankMode := fun noMode => absurd (noMode.symm.trans h) Bool.false_ne_true }

theorem Mapper.Legal.setMapmode (legal : m.Legal v) (k : BitVec 2) (tpp1 : v = .tpp1) :
    Mapper.Legal v { m with mapmode := k } := { legal with mapmode := fun other => absurd tpp1 other }

end

theorem bankLow5_lt (data : Byte) : (bankLow5 data).toNat < 0x80 := by
  rw [bankLow5_toNat]
  omega

theorem withBankLow5_lt (bank : RomBank) (data : Byte) : (withBankLow5 bank data).toNat < 0x80 := by
  rw [withBankLow5_toNat]
  omega

theorem withBankHigh2_lt (bank : RomBank) (data : Byte) : (withBankHigh2 bank data).toNat < 0x80 := by
  rw [withBankHigh2_toNat]
  omega

theorem ramBankLow2_lt (data : Byte) : (ramBankLow2 data).toNat < 4 := by
  rw [ramBankLow2_toNat]
  omega

/-- A row that writes a mapper register is one of its variant alone. -/
theorem row_variant_of_registersAfter {i : Instr} {m m' : Mapper} {mode : DecodeMode}
    (write : registersAfter i m = some m') (selected : i.selectedBy mode = true) :
    i.row.variant = some mode.variant := by
  cases i with
  | plainRamen | mbc1Ramen | mbc1Bank1 | mbc1Bank2 | mbc1Mode | m64Ramen | m64Bank1 | m64Bank2 | m64Mode | mbc2Ramen
  | mbc2Romb | mbc3Ramen | mbc3Romb | mbc3Ramb | huc1Ramen | huc1Romb | huc1Ramb | huc1Mode | mbc5Ramen | mbc5Romb0
  | mbc5Romb1 | mbc5Ramb | tpp1Mr0 | tpp1Mr1 | tpp1Mr2 | tpp1Map0 | tpp1Map1 | tpp1Map2 | tpp1Map3 =>
    exact congrArg some (eq_of_beq selected).symm
  | _ => nomatch write

/-- A control-register write of the variant leaves legal registers (R23 to R27). -/
theorem registersAfter_legal {i : Instr} {v : Variant} {m m' : Mapper} (row : i.row.variant = some v)
    (write : registersAfter i m = some m') (legal : m.Legal v) : m'.Legal v := by
  cases i with
  | plainRamen | mbc1Ramen | m64Ramen | mbc2Ramen | mbc3Ramen | huc1Ramen | mbc5Ramen =>
    cases row; cases write
    exact legal.setEnableRam _ (by decide)
  | mbc1Mode | m64Mode | huc1Mode =>
    cases row; cases write
    exact legal.setRamBankMode _ rfl
  | tpp1Map0 | tpp1Map1 | tpp1Map2 | tpp1Map3 =>
    cases row; cases write
    exact legal.setMapmode _ rfl
  | mbc1Bank1 data =>
    cases row; cases write
    refine legal.setRombank (decide_eq_true ?_)
    split
    · exact bankLow5_lt data
    · exact withBankLow5_lt _ data
  | mbc1Bank2 data =>
    cases row; cases write
    split
    · exact legal.setRambank (decide_eq_true (ramBankLow2_lt data))
    · exact legal.setRombank (decide_eq_true (withBankHigh2_lt _ data))
  | m64Bank1 data =>
    cases row; cases write
    exact legal.setRombank (decide_eq_true (withBankLow5_lt _ data))
  | m64Bank2 data =>
    cases row; cases write
    exact legal.setRombank (decide_eq_true (withBankHigh2_lt _ data))
  | mbc2Romb data =>
    cases row; cases write
    exact legal.setRombank (decide_eq_true (by rw [bankLow4_toNat]; omega))
  | mbc3Romb data =>
    cases row; cases write
    exact legal.setRombank (decide_eq_true (by rw [bankLow7_toNat]; omega))
  | huc1Romb data =>
    cases row; cases write
    exact legal.setRombank (decide_eq_true (by rw [bankLow6_toNat]; omega))
  | huc1Ramb data =>
    cases row; cases write
    exact legal.setRambank (decide_eq_true (ramBankLow2_lt data))
  | mbc5Romb0 data =>
    cases row; cases write
    have := data.isLt
    exact legal.setRombank (decide_eq_true (by rw [withLowByte9_toNat]; omega))
  | mbc5Romb1 data =>
    cases row; cases write
    exact legal.setRombank (decide_eq_true (by rw [withBit8_toNat]; omega))
  | mbc5Ramb data =>
    cases row; cases write
    exact legal.setRambank (decide_eq_true (by rw [ramBankLow4_toNat]; omega))
  | tpp1Mr0 | tpp1Mr1 =>
    cases row; cases write
    exact legal.setRombank rfl
  | mbc3Ramb | tpp1Mr2 =>
    cases row; cases write
    exact legal.setRambank rfl
  | _ => nomatch write

/-! ## The windows follow the registers -/

theorem selectionOf_of_ne {c : Cfg} (h : c.variant ≠ .mbc3) (m : Mapper) (r : Rtc) : selectionOf c m r = r :=
  if_neg fun mbc3 => h mbc3.1

theorem selectionOf_mbc3 {c : Cfg} (variant : c.variant = .mbc3) (m : Mapper) (r : Rtc) :
    selectionOf c m r = { r with
      active := if c.rtcWired then (rtcRegOf m.rambank).isSome else r.active
      index := if c.rtcWired then (rtcRegOf m.rambank).getD .s else r.index } := by
  unfold selectionOf
  cases wired : c.rtcWired with
  | false => exact if_neg fun h => Bool.false_ne_true h.2
  | true => exact if_pos ⟨variant, rfl⟩

theorem curmapOf_of_ne {c : Cfg} (h : c.variant ≠ .tpp1) (m : Mapper) (x : Tx) : curmapOf c m x = x := if_neg h

/-- A write that leaves windows, clock selection and map mode as the new registers say ends as `sync()` would. -/
theorem next_eq_sync {s : State} {m : Mapper} {w : Windows} {r : Rtc} {x : Tx} (win : w = windowsOf s.cfg m)
    (rtc : r = selectionOf s.cfg m s.rtc) (tx : x = curmapOf s.cfg m s.tx) :
    .next { s with mapper := m, win := w, rtc := r, tx := x, answer := .done } =
      complete (sync { s with mapper := m }) := by
  rw [sync_eq, win, rtc, tx]
  rfl

/-- The variants without a clock. -/
theorem next_eq_sync_noClock {s : State} {v : Variant} {m : Mapper} {w : Windows}
    (variant : s.cfg.variant = v) (win : w = windowsOf s.cfg m) (noClock : v ≠ .mbc3 ∧ v ≠ .tpp1 := by decide) :
    .next { s with mapper := m, win := w, answer := .done } = complete (sync { s with mapper := m }) :=
  next_eq_sync win (selectionOf_of_ne (variant ▸ noClock.1) m s.rtc).symm
    (curmapOf_of_ne (variant ▸ noClock.2) m s.tx).symm

/-- The ROM windows of a TPP1 do not depend on its map mode. -/
theorem tpp1Windows_rom (c : Cfg) (m : Mapper) :
    (tpp1Windows c m).rom0 = 0#16 ∧ (tpp1Windows c m).rom = maskRom c m.rombank := by
  unfold tpp1Windows
  split_ifs <;> exact ⟨rfl, rfl⟩

/-- A TPP1: no MBC3 clock. -/
theorem next_eq_sync_tpp1 {s : State} {m : Mapper} {w : Windows} {x : Tx} (variant : s.cfg.variant = .tpp1)
    (win : w = tpp1Windows s.cfg m) (tx : x = curmapOf s.cfg m s.tx) :
    .next { s with mapper := m, win := w, tx := x, answer := .done } = complete (sync { s with mapper := m }) :=
  next_eq_sync (win.trans (by rw [windowsOf, variant]))
    (selectionOf_of_ne (by rw [variant]; decide) m s.rtc).symm tx

theorem windowsOf_mbc1m64 {c : Cfg} (variant : c.variant = .mbc1m64) (m : Mapper) :
    windowsOf c m = ⟨if m.ramBankMode then toMulti64 m.rombank &&& 0x30#16 else 0#16,
      if m.ramBankMode then adjusted (toMulti64 m.rombank) else maskRom c (adjusted m.rombank),
      0#8, m.enableRam, m.enableRam, false⟩ := by
  rw [windowsOf, variant]
  cases m.ramBankMode <;> rfl

/-- In a state of the invariant a control-register write ends as `sync()` of the new registers would. -/
theorem exec_of_registersAfter {i : Instr} {s : State} {v : Variant} {m : Mapper} (inv : Invariant s)
    (variant : s.cfg.variant = v) (row : i.row.variant = some v) (write : registersAfter i s.mapper = some m) :
    exec i s = complete (sync { s with mapper := m }) := by
  obtain ⟨win, selection, map⟩ := (sync_fixed_iff s).mp inv.windows
  obtain ⟨rom0, rom⟩ := tpp1Windows_rom s.cfg s.mapper
  cases i with
  | plainRamen data =>
    cases row; cases write
    exact (exec_plainRamen data s).trans (next_eq_sync_noClock variant (by simp only [win, windowsOf, variant]))
  | mbc1Ramen data =>
    cases row; cases write
    exact (exec_mbc1Ramen data s).trans (next_eq_sync_noClock variant (by simp only [win, windowsOf, variant]))
  | mbc1Bank1 data =>
    cases row; cases write
    exact (exec_mbc1Bank1 data s).trans (next_eq_sync_noClock variant (by simp only [win, windowsOf, variant]))
  | mbc1Bank2 data =>
    cases row; cases write
    by_cases mode : s.mapper.ramBankMode = true
    · rw [if_pos mode]
      refine (exec_mbc1Bank2_ram data s mode).trans (next_eq_sync_noClock variant ?_)
      simp only [win, windowsOf, variant]
    · rw [if_neg mode]
      refine (exec_mbc1Bank2_rom data s (eq_false_of_ne_true mode)).trans
        (next_eq_sync_noClock variant ?_)
      simp only [win, windowsOf, variant]
  | mbc1Mode data =>
    cases row; cases write
    exact (exec_mbc1Mode data s).trans (next_eq_sync_noClock variant (by simp only [win, windowsOf, variant]))
  | m64Ramen data =>
    cases row; cases write
    exact (exec_m64Ramen data s).trans (next_eq_sync_noClock variant (by simp only [win, windowsOf_mbc1m64 variant]))
  | m64Bank1 data =>
    cases row; cases write
    exact (exec_m64Bank1 data s).trans (next_eq_sync_noClock variant (by simp only [win, windowsOf_mbc1m64 variant]))
  | m64Bank2 data =>
    cases row; cases write
    exact (exec_m64Bank2 data s).trans (next_eq_sync_noClock variant (by simp only [win, windowsOf_mbc1m64 variant]))
  | m64Mode data =>
    cases row; cases write
    exact (exec_m64Mode data s).trans (next_eq_sync_noClock variant (by simp only [win, windowsOf_mbc1m64 variant]))
  | mbc2Ramen data =>
    cases row; cases write
    exact (exec_mbc2Ramen data s).trans (next_eq_sync_noClock variant (by simp only [win, windowsOf, variant]))
  | mbc2Romb data =>
    cases row; cases write
    exact (exec_mbc2Romb data s).trans (next_eq_sync_noClock variant (by simp only [win, windowsOf, variant]))
  | mbc3Ramen data =>
    cases row; cases write
    refine (exec_mbc3Ramen data s).trans (next_eq_sync ?_ (selectionOf_mbc3 variant _ s.rtc).symm map)
    simp only [win, windowsOf, variant]
  | mbc3Romb data =>
    cases row; cases write
    refine (exec_mbc3Romb data s).trans (next_eq_sync ?_ selection map)
    simp only [win, windowsOf, variant]
  | mbc3Ramb data =>
    cases row; cases write
    refine (exec_mbc3Ramb data s).trans (next_eq_sync ?_ (by rw [selectionOf_mbc3 variant]) map)
    simp only [win, windowsOf, variant]
  | huc1Ramen data =>
    cases row; cases write
    exact (exec_huc1Ramen data s).trans (next_eq_sync_noClock variant (by
      simp only [win, windowsOf, variant, huc1RomBank]))
  | huc1Romb data =>
    cases row; cases write
    exact (exec_huc1Romb data s).trans (next_eq_sync_noClock variant (by simp only [win, windowsOf, variant]))
  | huc1Ramb data =>
    cases row; cases write
    by_cases mode : s.mapper.ramBankMode = true
    · refine (exec_huc1Ramb_ram data s mode).trans (next_eq_sync_noClock variant ?_)
      simp only [win, windowsOf, variant, huc1RomBank, if_pos mode]
    · refine (exec_huc1Ramb_rom data s (eq_false_of_ne_true mode)).trans
        (next_eq_sync_noClock variant ?_)
      simp only [win, windowsOf, variant, if_neg mode]
  | huc1Mode data =>
    cases row; cases write
    exact (exec_huc1Mode data s).trans (next_eq_sync_noClock variant (by simp only [windowsOf, variant]))
  | mbc5Ramen data =>
    cases row; cases write
    exact (exec_mbc5Ramen data s).trans (next_eq_sync_noClock variant (by simp only [win, windowsOf, variant]))
  | mbc5Romb0 data =>
    cases row; cases write
    exact (exec_mbc5Romb0 data s).trans (next_eq_sync_noClock variant (by simp only [win, windowsOf, variant]))
  | mbc5Romb1 data =>
    cases row; cases write
    exact (exec_mbc5Romb1 data s).trans (next_eq_sync_noClock variant (by simp only [win, windowsOf, variant]))
  | mbc5Ramb data =>
    cases row; cases write
    exact (exec_mbc5Ramb data s).trans (next_eq_sync_noClock variant (by simp only [win, windowsOf, variant]))
  | tpp1Mr0 data =>
    cases row; cases write
    refine (exec_tpp1Mr0 data s).trans (next_eq_sync_tpp1 variant ?_ map)
    simp only [win, windowsOf, variant, tpp1Windows]
    split_ifs <;> rfl
  | tpp1Mr1 data =>
    cases row; cases write
    refine (exec_tpp1Mr1 data s).trans (next_eq_sync_tpp1 variant ?_ map)
    simp only [win, windowsOf, variant, tpp1Windows]
    split_ifs <;> rfl
  | tpp1Mr2 data =>
    cases row; cases write
    refine (exec_tpp1Mr2 data s).trans (next_eq_sync_tpp1 variant ?_ map)
    simp only [win, windowsOf, variant, tpp1Windows]
    split_ifs <;> rfl
  | tpp1Map0 =>
    cases row; cases write
    refine (exec_tpp1Map0 s).trans (next_eq_sync_tpp1 variant ?_ (if_pos variant).symm)
    simp only [win, windowsOf, variant, rom0, rom]
    rfl
  | tpp1Map1 =>
    cases row; cases write
    refine (exec_tpp1Map1 s).trans (next_eq_sync_tpp1 variant ?_ (if_pos variant).symm)
    simp only [win, windowsOf, variant, rom0, rom]
    rfl
  | tpp1Map2 =>
    cases row; cases write
    refine (exec_tpp1Map2 s).trans (next_eq_sync_tpp1 variant ?_ (if_pos variant).symm)
    simp only [win, windowsOf, variant, rom0, rom]
    rfl
  | tpp1Map3 =>
    cases row; cases write
    refine (exec_tpp1Map3 s).trans (next_eq_sync_tpp1 variant ?_ (if_pos variant).symm)
    simp only [win, windowsOf, variant, rom0, rom]
    rfl
  | _ => nomatch write

end Sys2Proof.Machine
end

section
/-! The invariant is kept by every step (spec/10_state.md R23 to R27, R31, R42, R43, R52). -/

namespace Sys2Proof.Machine

/-! ## What the invariant says of the clocks -/

theorem selectionOf_fixed_iff (c : Cfg) (m : Mapper) (r : Rtc) :
    r = selectionOf c m r ↔ (c.variant = .mbc3 ∧ c.rtcWired = true →
      r.active = (rtcRegOf m.rambank).isSome ∧ r.index = (rtcRegOf m.rambank).getD .s) := by
  unfold selectionOf
  split
  case isTrue clock =>
    refine ⟨fun h _ => ⟨congrArg Rtc.active h, congrArg Rtc.index h⟩, fun h => ?_⟩
    obtain ⟨active, index⟩ := h clock
    rw [← active, ← index]
  case isFalse noClock => exact ⟨fun _ clock => absurd clock noClock, fun _ => rfl⟩

theorem curmapOf_fixed_iff (c : Cfg) (m : Mapper) (x : Tx) :
    x = curmapOf c m x ↔ (c.variant = .tpp1 → x.curmap = m.mapmode) := by
  unfold curmapOf
  split
  case isTrue tpp1 => exact ⟨fun h _ => congrArg Tx.curmap h, fun h => by rw [← h tpp1]⟩
  case isFalse other => exact ⟨fun _ tpp1 => absurd tpp1 other, fun _ => rfl⟩

/-- `sync()` keeps a clock that is not wired unselected. -/
theorem selectionOf_legal {c : Cfg} {r : Rtc} (legal : r.Legal c) (m : Mapper) : (selectionOf c m r).Legal c := by
  unfold selectionOf
  split
  case isTrue clock =>
    have wired : c.rtcWired ≠ false := by simp [clock.2]
    exact ⟨fun unwired => absurd unwired wired, fun unwired => absurd unwired wired⟩
  case isFalse => exact legal

/-- `sync()` puts the map mode of legal registers into TX. -/
theorem curmapOf_legal {c : Cfg} {m m' : Mapper} {x : Tx} (legal : x.Legal c m) (before : m.Legal c.variant)
    (after : m'.Legal c.variant) : (curmapOf c m' x).Legal c m' := by
  unfold curmapOf
  split
  case isTrue => exact ⟨rfl, legal.enabled, legal.features⟩
  case isFalse other =>
    exact ⟨legal.curmap.trans ((before.mapmode other).trans (after.mapmode other).symm), legal.enabled, legal.features⟩

/-! ## Two ways to keep the invariant -/

/-- Nothing differs of what the invariant says besides the images and the requests: configuration, mapper registers,
windows; of the clocks the selection, the latch tracker where no clock is wired, map mode, features and presence of TX. -/
structure SameControl (s t : State) : Prop where
  cfg : t.cfg = s.cfg
  mapper : t.mapper = s.mapper
  win : t.win = s.win
  active : t.rtc.active = s.rtc.active
  index : t.rtc.index = s.rtc.index
  lastLatch : s.cfg.rtcWired = false → t.rtc.lastLatch = s.rtc.lastLatch
  curmap : t.tx.curmap = s.tx.curmap
  enabled : t.tx.enabled = s.tx.enabled
  features : t.tx.features = s.tx.features

theorem SameControl.of_eq {s t : State} (cfg : t.cfg = s.cfg) (mapper : t.mapper = s.mapper) (win : t.win = s.win)
    (rtc : t.rtc = s.rtc) (tx : t.tx = s.tx) : SameControl s t :=
  ⟨cfg, mapper, win, by rw [rtc], by rw [rtc], fun _ => by rw [rtc], by rw [tx], by rw [tx], by rw [tx]⟩

/-- Where control stays the same, the invariant is kept by legal images and requests. -/
theorem Invariant.of_sameControl {s t : State} (inv : Invariant s) (same : SameControl s t)
    (ram : t.ram.Fits ramBlank s.cfg.ramSize) (rom : t.rom.Fits romBlank s.cfg.romSize)
    (requests : ∀ r ∈ t.queue, r.Legal) : Invariant t := by
  obtain ⟨win, selection, map⟩ := (sync_fixed_iff s).mp inv.windows
  rw [selectionOf_fixed_iff] at selection
  rw [curmapOf_fixed_iff] at map
  obtain ⟨cfg, mapper, sameWin, active, index, lastLatch, curmap, enabled, features⟩ := same
  have windows : sync t = t := by
    rw [sync_fixed_iff, selectionOf_fixed_iff, curmapOf_fixed_iff, cfg, mapper, sameWin, active, index, curmap]
    exact ⟨win, selection, map⟩
  constructor
  case windows => exact windows
  case requests => exact requests
  all_goals rw [cfg]
  case cfg => exact inv.cfg
  case mapper => exact mapper ▸ inv.mapper
  case rtc => exact ⟨fun unwired => active.trans (inv.rtc.active unwired),
    fun unwired => (lastLatch unwired).trans (inv.rtc.lastLatch unwired)⟩
  case tx => exact ⟨by rw [curmap, mapper, inv.tx.curmap], enabled.trans inv.tx.enabled, features.trans inv.tx.features⟩
  case ram => exact ram
  case rom => exact rom

/-- An operation that leaves control, images and requests. -/
theorem Invariant.of_sameControl_images {s t : State} (inv : Invariant s) (same : SameControl s t) (ram : t.ram = s.ram)
    (rom : t.rom = s.rom) (queue : t.queue = s.queue) : Invariant t :=
  inv.of_sameControl same (ram ▸ inv.ram) (rom ▸ inv.rom) (queue ▸ inv.requests)

theorem Invariant.replied {s : State} (inv : Invariant s) (a : Answer) : Invariant (reply a s) :=
  inv.of_sameControl_images (.of_eq rfl rfl rfl rfl rfl) rfl rfl rfl

/-- `sync()` completes the invariant: the windows and the selection it sets, the rest is legal before. -/
theorem invariant_sync {s : State} (cfg : s.cfg.legal = true) (mapper : s.mapper.Legal s.cfg.variant)
    (rtc : s.rtc.Legal s.cfg) (tx : (curmapOf s.cfg s.mapper s.tx).Legal s.cfg s.mapper)
    (ram : s.ram.Fits ramBlank s.cfg.ramSize) (rom : s.rom.Fits romBlank s.cfg.romSize)
    (requests : ∀ r ∈ s.queue, r.Legal) : Invariant (sync s) := by
  have windows := sync_sync s
  have closed := sync_eq s
  generalize sync s = t at windows closed ⊢
  subst closed
  exact ⟨cfg, mapper, selectionOf_legal rtc s.mapper, tx, ram, rom, windows, requests⟩

/-! ## Transactions -/

/-- A control-register write keeps the invariant: the new registers are legal and the windows follow them. -/
theorem sync_registers_keeps_invariant {s : State} (inv : Invariant s) {m : Mapper} (legal : m.Legal s.cfg.variant) :
    Invariant (sync { s with mapper := m }) :=
  invariant_sync inv.cfg legal inv.rtc (curmapOf_legal inv.tx inv.mapper legal) inv.ram inv.rom inv.requests

/-- Every transaction of a selected row keeps the invariant. -/
theorem exec_keeps_invariant {i : Instr} {s t : State} (inv : Invariant s) (selected : i.selectedBy (decodeMode s) = true)
    (h : exec i s = .next t) : Invariant t := by
  cases effect_of_exec h with
  | answer a => exact inv.replied a
  | @registers m _ write tx =>
    have row := row_variant_of_registersAfter write selected
    rw [exec_of_registersAfter inv rfl row write] at h
    injection h with h
    exact h ▸ (sync_registers_keeps_invariant inv (registersAfter_legal row write inv.mapper)).replied .done
  | rtc r calls active index lastLatch =>
    exact inv.of_sameControl_images ⟨rfl, rfl, rfl, active, index, lastLatch, rfl, rfl, rfl⟩ rfl rfl rfl
  | tx x calls flags curmap enabled features =>
    exact inv.of_sameControl_images ⟨rfl, rfl, rfl, rfl, rfl, fun _ => rfl, curmap, enabled, features⟩ rfl rfl rfl
  | ram index v inside =>
    exact inv.of_sameControl (.of_eq rfl rfl rfl rfl rfl)
      ⟨Memory.wf_write inv.ram.canonical index v, Memory.below_write ramBlank inv.ram.inside inside v⟩ inv.rom inv.requests

/-! ## Host operations -/

theorem fits_ofBytes (blank : Byte) {bytes : List Byte} {size : Nat} (le : bytes.length ≤ size) :
    (Memory.ofBytes blank 0 bytes).Fits blank size :=
  ⟨Memory.wf_ofBytes blank bytes, Memory.below_ofBytes blank 0 bytes (by omega)⟩

theorem loadRom_keeps_invariant {s t : State} (inv : Invariant s) {bytes : List Byte} {forceDmg multicartCompat : Bool}
    (h : loadRom bytes forceDmg multicartCompat s = .next t) : Invariant t := by
  cases check : checkRom bytes with
  | error e =>
    rw [loadRom, check] at h
    injection h with h
    exact h ▸ inv.replied _
  | ok v =>
    rw [loadRom_ok check] at h
    injection h with h
    subst h
    have fits := fits_ofBytes romBlank (le_romBanksOf bytes.length)
    have reset := everyResetMeetsInvariant (cfgOf v bytes multicartCompat s.cfg) _ (cfgOf_legal check) fits
    exact reset.of_sameControl (.of_eq rfl rfl rfl rfl rfl) ⟨rfl, rfl⟩ fits inv.requests

theorem importRam_keeps_invariant {s : State} (inv : Invariant s) (bytes : List Byte) : Invariant (importRam bytes s) := by
  unfold importRam
  split
  · exact inv.of_sameControl (.of_eq rfl rfl rfl rfl rfl) (fits_ofBytes ramBlank (List.length_take_le ..)) inv.rom
      inv.requests
  · exact inv

theorem importTime_keeps_invariant {s : State} (inv : Invariant s) (bytes : List Byte) : Invariant (importTime bytes s) := by
  unfold importTime setActiveBaseTime
  split
  · split <;> exact inv.of_sameControl_images ⟨rfl, rfl, rfl, rfl, rfl, fun _ => rfl, rfl, rfl, rfl⟩ rfl rfl rfl
  · exact inv

/-- A restore of a legal record of this cartridge (log 28). -/
theorem restore_keeps_invariant {s : State} (inv : Invariant s) {snap : Snapshot} (legal : snap.Legal)
    (own : snap.origin = s.cfg) : Invariant (sync (restore snap s)) := by
  obtain ⟨mapper, rtc, tx, ram⟩ := legal
  rw [own] at mapper rtc tx ram
  exact invariant_sync (s := restore snap s) inv.cfg mapper rtc (curmapOf_legal tx mapper mapper) ram inv.rom inv.requests

/-- Tear-down leaves empty images. -/
theorem tearDown_keeps_invariant {s t : State} (inv : Invariant s) (h : tearDown s = .next t) : Invariant t := by
  injection h with h
  exact h ▸ inv.of_sameControl (.of_eq rfl rfl rfl rfl rfl) ⟨rfl, rfl⟩ ⟨rfl, rfl⟩ inv.requests

/-- Every host operation keeps the invariant, a restore if its record is legal. -/
theorem runLiveHostOp_keeps_invariant {op : HostOp} {s t : State} (inv : Invariant s)
    (legal : ∀ snap, op = .loadState snap → snap.Legal) (h : runLiveHostOp op s = .next t) : Invariant t := by
  cases op with
  | loadRom bytes forceDmg multicartCompat => exact loadRom_keeps_invariant inv h
  | loadSavedata bytes =>
    obtain ⟨-, rfl⟩ := loadSavedata_next h
    exact (importTime_keeps_invariant (importRam_keeps_invariant inv bytes) bytes).replied .done
  | savedataLength | saveSavedata | saveState =>
    injection h with h
    exact h ▸ inv.replied _
  | loadState snap =>
    obtain ⟨own, -, rfl⟩ := loadState_next h
    exact (restore_keeps_invariant inv (legal snap rfl) own).replied .done
  | getMemoryArea id =>
    obtain ⟨a, rfl⟩ := getMemoryArea_next h
    exact inv.replied a
  | canMapBankAt addr bank =>
    obtain ⟨b, n, rfl⟩ := canMapBankAt_next h
    exact inv.of_sameControl_images (.of_eq rfl rfl rfl rfl rfl) rfl rfl rfl
  | tearDown => exact tearDown_keeps_invariant inv h

/-! ## Steps -/

/-- Every legal request keeps the invariant. -/
theorem runRequest_keeps_invariant {r : Request} {s t : State} (inv : Invariant s) (legal : r.Legal)
    (h : runRequest r s = .next t) : Invariant t := by
  cases r with
  | bus w =>
    obtain ⟨-, next⟩ := runBus_next h
    exact exec_keeps_invariant inv (decode_selectedBy _ w) next
  | host op => exact runLiveHostOp_keeps_invariant inv (fun snap e => legal snap (congrArg _ e)) (runHostOp_next h)
  | clock v =>
    injection h with h
    exact h ▸ inv.of_sameControl_images (.of_eq rfl rfl rfl rfl rfl) rfl rfl rfl

/-- Settles O46: a step runs the request at the head of the queue, which is legal, and each legal request keeps the
invariant. -/
theorem stepKeepsInvariant : Obligations.StepKeepsInvariant := by
  intro s s' inv next
  cases queue : s.queue with
  | nil =>
    rw [step_of_queue_nil queue] at next
    injection next with next
    exact next ▸ inv
  | cons r rest =>
    rw [step_of_queue_cons queue] at next
    have requests := inv.requests
    rw [queue, List.forall_mem_cons] at requests
    obtain ⟨head, waiting⟩ := requests
    have taken : Invariant { s with queue := rest } :=
      inv.of_sameControl (.of_eq rfl rfl rfl rfl rfl) inv.ram inv.rom waiting
    exact runRequest_keeps_invariant taken head next

end Sys2Proof.Machine
end

section
/-! Memory (spec/20_memory.md): where an address and a window access land, a byte read back, reads that change nothing,
and the ranges outside the block. -/

namespace Sys2Proof

/-! ## Addresses as numbers (R93) -/

/-- A field of a word has a value exactly if the word's number has it there. -/
theorem extractLsb'_eq_iff {w start len k : Nat} {x : BitVec w} :
    x.extractLsb' start len = BitVec.ofNat len k ↔ x.toNat / 2 ^ start % 2 ^ len = k % 2 ^ len := by
  rw [← BitVec.toNat_inj, BitVec.extractLsb'_toNat, Nat.shiftRight_eq_div_pow, BitVec.toNat_ofNat]

theorem getLsbD_eq_decide {w : Nat} (x : BitVec w) (i : Nat) : x.getLsbD i = decide (x.toNat / 2 ^ i % 2 = 1) :=
  Nat.testBit_eq_decide_div_mod_eq

theorem getLsbD_15_of_lt {a : Addr} (hi : a.toNat < 0x8000) : a.getLsbD 15 = false := by
  rw [getLsbD_eq_decide, decide_eq_false_iff_not]
  omega

theorem decode_read_rom0 (m : DecodeMode) {a : Addr} (d : Byte) (hi : a.toNat < 0x4000) :
    decode m (pack false a d) = .rdRom0 (a.extractLsb' 0 14) := by
  have bit14 : a.getLsbD 14 = false := by
    rw [getLsbD_eq_decide, decide_eq_false_iff_not]
    omega
  rw [decode_pack_low m false d (getLsbD_15_of_lt (by omega)), bit14]
  rfl

theorem decode_read_romx (m : DecodeMode) {a : Addr} (d : Byte) (lo : 0x4000 ≤ a.toNat) (hi : a.toNat < 0x8000) :
    decode m (pack false a d) = .rdRomx (a.extractLsb' 0 14) := by
  have bit14 : a.getLsbD 14 = true := by
    rw [getLsbD_eq_decide, decide_eq_true_eq]
    omega
  rw [decode_pack_low m false d (getLsbD_15_of_lt hi), bit14]
  rfl

/-- Where no clock shows in the window, no row replaces RD.XRAM. -/
theorem decodeRdXram_of_noClock {m : DecodeMode} (noClock : m.rtcEn = false) (a : Addr) :
    decodeRdXram m a = .rdXram (a.extractLsb' 0 13) := by
  simp [decodeRdXram, DecodeMode.readsRtc, DecodeMode.readsTx, noClock]

theorem decode_read_xram {m : DecodeMode} (noClock : m.rtcEn = false) {a : Addr} (d : Byte) (lo : 0xA000 ≤ a.toNat)
    (hi : a.toNat < 0xC000) : decode m (pack false a d) = .rdXram (a.extractLsb' 0 13) := by
  have top3 : a.extractLsb' 13 3 = 0b101#3 := extractLsb'_eq_iff.mpr (by omega)
  rw [decode_pack_xram m false d top3]
  exact decodeRdXram_of_noClock noClock a

theorem decode_at_8000 (m : DecodeMode) {t : Word} (lo : 0x8000 ≤ (tAddr t).toNat) (hi : (tAddr t).toNat < 0xA000) :
    decode m t = .ext8000 (tRw t) ((tAddr t).extractLsb' 0 13) (extData t) := by
  have top3 : (tAddr t).extractLsb' 13 3 = 0b100#3 := extractLsb'_eq_iff.mpr (by omega)
  exact if_pos top3

theorem decode_from_C000 (m : DecodeMode) {t : Word} (lo : 0xC000 ≤ (tAddr t).toNat) :
    decode m t = .extC000 (tRw t) ((tAddr t).extractLsb' 0 14) (extData t) := by
  have := (tAddr t).isLt
  have not8000 : (tAddr t).extractLsb' 13 3 ≠ 0b100#3 := mt extractLsb'_eq_iff.mp (by omega)
  have top2 : (tAddr t).extractLsb' 14 2 = 0b11#2 := extractLsb'_eq_iff.mpr (by omega)
  exact (if_neg not8000).trans (if_pos top2)

end Sys2Proof

namespace Sys2Proof.Machine

/-! ## Translation (R82, R83, R93) -/

theorem romIndex_div (bank : RomBank) (off : BitVec 14) : romIndex bank off / 0x4000 = bank.toNat := by
  have := off.isLt
  unfold romIndex
  omega

theorem ramIndex_div (bank : RamBank) (off : BitVec 13) : ramIndex bank off / 0x2000 = bank.toNat := by
  have := off.isLt
  unfold ramIndex
  omega

theorem ramIndex_mod (bank : RamBank) (off : BitVec 13) : ramIndex bank off % 0x2000 = off.toNat := by
  have := off.isLt
  unfold ramIndex
  omega

/-- Different banks or different offsets are different bytes of RAM. -/
theorem ramIndex_inj {bank bank' : RamBank} {off off' : BitVec 13} (h : ramIndex bank off = ramIndex bank' off') :
    bank = bank' ∧ off = off' :=
  ⟨BitVec.eq_of_toNat_eq (by rw [← ramIndex_div bank off, h, ramIndex_div]),
    BitVec.eq_of_toNat_eq (by rw [← ramIndex_mod bank off, h, ramIndex_mod])⟩

/-- A read of the RAM window, where it shows RAM. -/
theorem Invariant.exec_rdXram_inside {s : State} (inv : Invariant s) (off : BitVec 13) (re : s.win.re = true)
    (path : s.win.rtcEn = false) (ram : s.cfg.rambanks ≠ 0) :
    exec (.rdXram off) s = .next { s with answer := .byte (ramByte (ramIndex s.win.ram off) s) } :=
  (exec_rdXram_ram off s re path).trans (readRam_inside ram (inv.ram_inside ram off))

/-- Settles O8: the windows stay inside the images, an index splits into bank and offset, and the boundary addresses
decode to the window they lie in. -/
theorem windowTranslation : Obligations.WindowTranslation := by
  refine ⟨fun s off inv => ?rom0, fun s off inv => ?romx, fun s off inv re path ram => ?xram, fun m a d hi => ?addr0,
    fun m a d lo hi => ?addrx, fun m a d noClock lo hi => ?addrXram⟩
  case rom0 =>
    obtain ⟨rom0, -⟩ := windowsStayInsideImages s inv
    exact ⟨readRom_inside (romIndex_lt rom0 off), romIndex_lt rom0 off, romIndex_div s.win.rom0 off⟩
  case romx =>
    obtain ⟨-, romx, -⟩ := windowsStayInsideImages s inv
    exact ⟨readRom_inside (romIndex_lt romx off), romIndex_lt romx off, romIndex_div s.win.rom off⟩
  case xram => exact ⟨inv.exec_rdXram_inside off re path ram, inv.ram_inside ram off, ramIndex_div s.win.ram off⟩
  case addr0 =>
    refine ⟨_, decode_read_rom0 m d hi, ?_⟩
    rw [BitVec.extractLsb'_toNat, Nat.shiftRight_zero]
    omega
  case addrx =>
    refine ⟨_, decode_read_romx m d lo hi, ?_⟩
    rw [BitVec.extractLsb'_toNat, Nat.shiftRight_zero]
    omega
  case addrXram =>
    refine ⟨_, decode_read_xram noClock d lo hi, ?_⟩
    rw [BitVec.extractLsb'_toNat, Nat.shiftRight_zero]
    omega

/-! ## A byte read back (R96) -/

/-- Settles O11: the write stores at the index of its bank and offset, and every other access has another index. -/
theorem storedByteIsReadBack : Obligations.StoredByteIsReadBack := by
  intro s off data inv we path ram
  obtain ⟨t, next, -, -, -, -, stored⟩ := ramWindowWrite s off data inv
  obtain ⟨-, -, -, same, other, -⟩ := stored we path ram
  refine ⟨t, next, fun u invU cfg sameRam re pathU => ?_⟩
  have read := fun off' => invU.exec_rdXram_inside off' re pathU (cfg ▸ ram)
  have bytes : ∀ i, ramByte i u = ramByte i t := fun i => congrArg (Memory.read ramBlank · i) sameRam
  refine ⟨fun aimed => ?_, fun off' elsewhere => ?_⟩
  · rw [read off, bytes, aimed, same]
  · have ne : ramIndex u.win.ram off' ≠ ramIndex s.win.ram off := fun e => by
      obtain ⟨bank, offset⟩ := ramIndex_inj e
      exact elsewhere.elim (· bank) (· offset)
    rw [read off', bytes, other _ ne]
    rfl

/-! ## Reads change nothing (R91) -/

/-- `s` with other requests waiting and another last answer. -/
def withRequests (queue : List Request) (last : Answer) (s : State) : State := { s with queue := queue, answer := last }

/-- The operation `f` only answers `a` in `s`, whatever waits in the queue and whatever was answered last. -/
def OnlyAnswers (f : State → Result) (s : State) (a : Answer) : Prop :=
  ∀ queue last, f (withRequests queue last s) = .next (withRequests queue a s)

/-- Operations that agree whatever waits and was answered last only answer alike. -/
theorem OnlyAnswers.congr {f g : State → Result} {s : State} {a : Answer} (only : OnlyAnswers f s a)
    (agree : ∀ queue last, g (withRequests queue last s) = f (withRequests queue last s)) : OnlyAnswers g s a :=
  fun queue last => (agree queue last).trans (only queue last)

theorem readRom_onlyAnswers {bank : RomBank} {off : BitVec 14} {s t : State} (h : readRom bank off s = .next t) :
    ∃ a, OnlyAnswers (readRom bank off) s a := by
  by_cases inside : romIndex bank off < s.cfg.romSize
  · exact ⟨.byte (romByte (romIndex bank off) s), fun queue last =>
      readRom_inside (s := withRequests queue last s) inside⟩
  · rw [readRom, if_neg inside] at h
    nomatch h

theorem readRam_onlyAnswers {off : BitVec 13} {s t : State} (h : readRam off s = .next t) :
    ∃ a, OnlyAnswers (readRam off) s a := by
  by_cases ram : s.cfg.rambanks = 0
  · exact ⟨_, fun queue last => readRam_none (s := withRequests queue last s) ram⟩
  by_cases inside : ramIndex s.win.ram off < s.cfg.ramSize
  · exact ⟨.byte (ramByte (ramIndex s.win.ram off) s), fun queue last =>
      readRam_inside (s := withRequests queue last s) ram inside⟩
  · rw [readRam, if_neg ram, if_neg inside] at h
    nomatch h

/-- In map modes 1 and 2 the register window falls through to RAM (spec/42_tpp1_extension.md R200; log 20). -/
theorem exec_rdXram_txRam (off : BitVec 13) (s : State) (re : s.win.re = true) (clock : s.win.rtcEn = true)
    (tpp1 : s.cfg.variant = .tpp1) (notMr : s.tx.curmap ≠ 0#2) (notClock : s.tx.curmap ≠ 3#2) :
    exec (.rdXram off) s = readRam off s := by
  simp only [exec, execRdXram, re, clock, readClockPath, tpp1, txRead, if_neg notMr, if_neg notClock]
  rfl

/-- A RAM-window read, by the tests of spec/40_window_access.md R156. -/
theorem rdXram_onlyAnswers {off : BitVec 13} {s t : State} (h : exec (.rdXram off) s = .next t) :
    ∃ a, OnlyAnswers (exec (.rdXram off)) s a := by
  cases re : s.win.re with
  | false => exact ⟨_, fun queue last => exec_rdXram_closed off (withRequests queue last s) re⟩
  | true =>
    cases clock : s.win.rtcEn with
    | false =>
      obtain ⟨a, only⟩ := readRam_onlyAnswers (exec_rdXram_ram off s re clock ▸ h)
      exact ⟨a, only.congr fun queue last => exec_rdXram_ram off (withRequests queue last s) re clock⟩
    | true =>
      by_cases tpp1 : s.cfg.variant = .tpp1
      case neg => exact ⟨.byte (rtcRead s.rtc), fun queue last =>
        exec_rdXram_rtc off (withRequests queue last s) re clock tpp1⟩
      by_cases mr : s.tx.curmap = 0#2
      · exact ⟨.byte (txReadMr (offLow2 off) s), fun queue last =>
          exec_rdXram_txMr off (withRequests queue last s) re clock tpp1 mr⟩
      by_cases time : s.tx.curmap = 3#2
      · exact ⟨.byte (txReadClock (offLow2 off) s), fun queue last =>
          exec_rdXram_txClock off (withRequests queue last s) re clock tpp1 time⟩
      obtain ⟨a, only⟩ := readRam_onlyAnswers (exec_rdXram_txRam off s re clock tpp1 mr time ▸ h)
      exact ⟨a, only.congr fun queue last => exec_rdXram_txRam off (withRequests queue last s) re clock tpp1 mr time⟩

/-- Whatever a read decodes to only answers, if it completes. -/
theorem read_onlyAnswers {w : Word} {s t : State} (read : tRw w = false)
    (h : exec (decode (decodeMode s) w) s = .next t) : ∃ a, OnlyAnswers (exec (decode (decodeMode s) w)) s a := by
  have notWrite : tRw w ≠ true := by simp [read]
  revert h
  refine decode_ind (fun i => exec i s = .next t → ∃ a, OnlyAnswers (exec i) s a) _ w
    (fun _ _ => ⟨.external, fun _ _ => rfl⟩) (fun _ _ => ⟨.external, fun _ _ => rfl⟩)
    (fun _ write => absurd write notWrite) (fun _ _ h => ?rdXram) (fun _ write => absurd write notWrite)
    (fun _ _ h => ?romx) (fun _ _ h => ?rom0)
  case rdXram =>
    obtain ⟨a, only⟩ := rdXram_onlyAnswers ((exec_decodeRdXram s _).symm.trans h)
    exact ⟨a, only.congr fun queue last => exec_decodeRdXram (withRequests queue last s) _⟩
  case romx =>
    obtain ⟨a, only⟩ := readRom_onlyAnswers (bank := s.win.rom) h
    exact ⟨a, only.congr fun _ _ => rfl⟩
  case rom0 =>
    obtain ⟨a, only⟩ := readRom_onlyAnswers (bank := s.win.rom0) h
    exact ⟨a, only.congr fun _ _ => rfl⟩

/-- Settles O12: a read only answers, and decoding does not see the queue or the answer. -/
theorem readsChangeNothing : Obligations.ReadsChangeNothing := by
  intro s t rest s' issued read next
  have ⟨live, _⟩ := issued
  rw [issued.step_eq] at next
  obtain ⟨a, only⟩ := read_onlyAnswers (s := withRequests rest s.answer s) read next
  obtain rfl : withRequests rest a s = s' := Host.Outcome.next.inj ((only rest s.answer).symm.trans next)
  refine ⟨rfl, fun rest' => ?_⟩
  have again : Issued t rest' (withRequests (.bus t :: rest') a s) := ⟨live, rfl⟩
  exact again.step_eq.trans (only rest' a)

/-! ## Outside the block (R84) -/

/-- Settles O14: both ranges decode to a transaction outside the block, which only answers. -/
theorem outsideTransactionsTouchNothing : Obligations.OutsideTransactionsTouchNothing := by
  refine ⟨exec_ext8000, exec_extC000, fun m t s outside => ?_⟩
  rcases outside with ⟨lo, hi⟩ | lo
  · rw [decode_at_8000 m lo hi, exec_ext8000]
  · rw [decode_from_C000 m lo, exec_extC000]

end Sys2Proof.Machine
end

section
/-! Control-register decoding reads only the bits of its format (spec/30_encoding.md R121 to R126). -/

namespace Sys2Proof

/-! ## Words that agree in the bits a mask reads -/

section
variable {w : Nat} {x y mask : BitVec w}

theorem and_eq_of_submask {sub : BitVec w} (same : x &&& mask = y &&& mask) (le : mask &&& sub = sub) :
    x &&& sub = y &&& sub := by
  rw [← le, ← BitVec.and_assoc, same, BitVec.and_assoc]

theorem extractLsb'_eq_of_and_eq {start len : Nat} (same : x &&& mask = y &&& mask)
    (read : mask.extractLsb' start len = BitVec.allOnes len) : x.extractLsb' start len = y.extractLsb' start len := by
  have field (z : BitVec w) : (z &&& mask).extractLsb' start len = z.extractLsb' start len := by
    rw [BitVec.extractLsb'_and, read, BitVec.and_allOnes]
  rw [← field x, same, field y]

theorem getLsbD_eq_of_and_eq {i : Nat} (same : x &&& mask = y &&& mask) (read : mask.getLsbD i = true) :
    x.getLsbD i = y.getLsbD i := by
  have bit (z : BitVec w) : (z &&& mask).getLsbD i = z.getLsbD i := by rw [BitVec.getLsbD_and, read, Bool.and_true]
  rw [← bit x, same, bit y]

end

section
variable {t t' mask : Word}

theorem tAddr_extractLsb'_eq_of_and_eq {start len : Nat} (same : t &&& mask = t' &&& mask) (inside : start + len ≤ 16)
    (read : mask.extractLsb' (8 + start) len = BitVec.allOnes len) :
    (tAddr t).extractLsb' start len = (tAddr t').extractLsb' start len := by
  rw [extractLsb'_tAddr t inside, extractLsb'_tAddr t' inside]
  exact extractLsb'_eq_of_and_eq same read

theorem tAddr_getLsbD_eq_of_and_eq {i : Nat} (same : t &&& mask = t' &&& mask) (lt : i < 16)
    (read : mask.getLsbD (8 + i) = true) : (tAddr t).getLsbD i = (tAddr t').getLsbD i := by
  rw [getLsbD_tAddr t lt, getLsbD_tAddr t' lt]
  exact getLsbD_eq_of_and_eq same read

end

/-! ## The bits a format reads -/

/-- The bits of the address in `T` that the write decoder of the variant reads: the region (R123), and bit 12 in MBC5
(R124), bit 8 in MBC2 (R125); in TPP1 bit 14 and `addr & 3` (R126). -/
def formatMask (v : Variant) : Word :=
  match v with
  | .plain | .mbc1 | .mbc1m64 | .mbc3 | .huc1 => 0x0600000#25
  | .mbc5 => 0x0700000#25
  | .mbc2 => 0x0610000#25
  | .tpp1 => 0x0400300#25

/-- MBC2's selector `addr & 0x6100` is the region and bit 8 (R125). -/
theorem decodeMbc2_eq (a : Addr) (d : Byte) :
    decodeMbc2 a d = pick4 (region a) (if a.getLsbD 8 then .mbc2Ign0100 d else .mbc2Ramen d)
      (if a.getLsbD 8 then .mbc2Romb d else .mbc2Ign2000 d) (.mbc2IgnHi d) (.mbc2IgnHi d) := by
  have regions : ∀ k : BitVec 2, k = 0#2 ∨ k = 1#2 ∨ k = 2#2 ∨ k = 3#2 := by decide
  have bits : ∀ b : BitVec 1, b = 0#1 ∨ b = 1#1 := by decide
  rw [decodeMbc2, mbc2_selector, region, BitVec.getLsbD_eq_extractLsb']
  generalize a.extractLsb' 13 2 = k
  generalize a.extractLsb' 8 1 = b
  rcases regions k with rfl | rfl | rfl | rfl <;> rcases bits b with rfl | rfl <;> rfl

/-- Addresses that agree in the bits of the format decode alike. -/
theorem decodeControl_eq_of_formatMask {v : Variant} {t t' : Word} (same : t &&& formatMask v = t' &&& formatMask v)
    (d : Byte) : decodeControl v (tAddr t) d = decodeControl v (tAddr t') d := by
  cases v with
  | plain | mbc1 | mbc1m64 | mbc3 | huc1 =>
    have region : region (tAddr t) = region (tAddr t') := tAddr_extractLsb'_eq_of_and_eq same (by decide) rfl
    simp only [decodeControl, decodePlain, decodeMbc1, decodeM64, decodeMbc3, decodeHuc1, region]
  | mbc5 =>
    have region : region (tAddr t) = region (tAddr t') := tAddr_extractLsb'_eq_of_and_eq same (by decide) rfl
    have bit12 := tAddr_getLsbD_eq_of_and_eq same (i := 12) (by decide) rfl
    simp only [decodeControl, decodeMbc5, region, bit12]
  | mbc2 =>
    have region : region (tAddr t) = region (tAddr t') := tAddr_extractLsb'_eq_of_and_eq same (by decide) rfl
    have bit8 := tAddr_getLsbD_eq_of_and_eq same (i := 8) (by decide) rfl
    simp only [decodeControl, decodeMbc2_eq, region, bit8]
  | tpp1 =>
    have register : low2 (tAddr t) = low2 (tAddr t') := tAddr_extractLsb'_eq_of_and_eq same (by decide) rfl
    have bit14 := tAddr_getLsbD_eq_of_and_eq same (i := 14) (by decide) rfl
    simp only [decodeControl, decodeTpp1, register, bit14]

/-! ## Mirrors -/

/-- A write below `0x8000` (R122). -/
theorem decode_controlWrite {m : DecodeMode} {v : Variant} {t : Word} (variant : (m.variant == v) = true)
    (write : t.extractLsb' 23 2 = 0b10#2) : decode m t = decodeControl v (tAddr t) (tData t) := by
  have rw1 : tRw t = true := getLsbD_of_extractLsb' write (i := 1) (by decide)
  have low : (tAddr t).getLsbD 15 = false :=
    (getLsbD_tAddr t (by decide)).trans (getLsbD_of_extractLsb' write (i := 0) (by decide))
  rw [← pack_fields t, decode_pack_low m _ _ low, if_pos rw1, tAddr_pack, tData_pack, eq_of_beq variant]

/-- A mask that reads the kind of transaction, the bits of the format and the datum mirrors a control-register write. -/
theorem decode_mirrored {m : DecodeMode} {v : Variant} {t t' mask : Word} (variant : (m.variant == v) = true)
    (write : t.extractLsb' 23 2 = 0b10#2) (same : t &&& mask = t' &&& mask)
    (readKind : mask.extractLsb' 23 2 = BitVec.allOnes 2) (readFormat : mask &&& formatMask v = formatMask v)
    (readDatum : mask.extractLsb' 0 8 = BitVec.allOnes 8) : decode m t' = decode m t := by
  have write' := (extractLsb'_eq_of_and_eq same readKind).symm.trans write
  have format := decodeControl_eq_of_formatMask (and_eq_of_submask same readFormat)
  have datum : tData t = tData t' := extractLsb'_eq_of_and_eq same readDatum
  rw [decode_controlWrite variant write, decode_controlWrite variant write', format, datum]

/-- Settles O5: each variant's mask reads the bits of its format. -/
theorem controlWritesAreMirrored : Obligations.ControlWritesAreMirrored := by
  intro m t t' write same
  generalize row : m.variant = v at same
  cases v with
  | _ => exact decode_mirrored (beq_iff_eq.mpr row) write same rfl rfl rfl

end Sys2Proof
end

section
/-! The word a row selects decodes to the row (spec/30_encoding.md R136). -/

namespace Sys2Proof

/-! ## The fields of a selected word -/

/-- A selected word agrees with the row's pattern in the bits the row's mask reads. -/
theorem Row.and_mask_eq_of_selects {r : Row} {t : Word} (sel : r.selects t = true) :
    t &&& r.mask = r.pattern &&& r.mask := by
  rw [← eq_of_beq sel, BitVec.and_assoc, BitVec.and_self]

section
variable {m : DecodeMode} {t : Word} {rowVariant : Option Variant} {pattern mask : Word}

/-- A field that the row's mask reads has the pattern's value. -/
theorem Row.field_of_selects {start len : Nat} {x : BitVec len}
    (sel : Row.selects ⟨rowVariant, pattern, mask⟩ t = true) (read : mask.extractLsb' start len = BitVec.allOnes len)
    (value : pattern.extractLsb' start len = x) : t.extractLsb' start len = x :=
  (extractLsb'_eq_of_and_eq (Row.and_mask_eq_of_selects sel) read).trans value

/-- A bit of the address that the row's mask reads has the pattern's value. -/
theorem Row.addrBit_of_selects {i : Nat} {b : Bool} (sel : Row.selects ⟨rowVariant, pattern, mask⟩ t = true)
    (lt : i < 16) (read : mask.getLsbD (8 + i) = true) (value : (tAddr pattern).getLsbD i = b) :
    (tAddr t).getLsbD i = b :=
  (tAddr_getLsbD_eq_of_and_eq (Row.and_mask_eq_of_selects sel) lt read).trans value

/-! ## Rows of every variant -/

theorem decode_of_window8000 (m : DecodeMode) {t : Word} (window : t.extractLsb' 21 3 = 0b100#3) :
    decode m t = .ext8000 (tRw t) ((tAddr t).extractLsb' 0 13) (extData t) :=
  if_pos ((extractLsb'_tAddr t (by decide)).trans window)

theorem decode_of_windowC000 (m : DecodeMode) {t : Word} (window : t.extractLsb' 22 2 = 0b11#2) :
    decode m t = .extC000 (tRw t) ((tAddr t).extractLsb' 0 14) (extData t) := by
  have top2 : (tAddr t).extractLsb' 14 2 = 0b11#2 := (extractLsb'_tAddr t (by decide)).trans window
  have top2Nat := extractLsb'_eq_iff.mp top2
  exact decode_from_C000 m (by omega)

/-- A read below `0x8000`. -/
theorem decode_romRead (m : DecodeMode) {t : Word} (read : t.extractLsb' 23 2 = 0b00#2) :
    decode m t = if (tAddr t).getLsbD 14 then .rdRomx ((tAddr t).extractLsb' 0 14)
      else .rdRom0 ((tAddr t).extractLsb' 0 14) := by
  have rw0 : tRw t = false := getLsbD_of_extractLsb' read (i := 1) (by decide)
  have low : (tAddr t).getLsbD 15 = false :=
    (getLsbD_tAddr t (by decide)).trans (getLsbD_of_extractLsb' read (i := 0) (by decide))
  rw [← pack_fields t, decode_pack_low m _ _ low, rw0, tAddr_pack]
  rfl

/-! ## Rows of the RAM window (R133) -/

theorem decodeRdXram_of_rtc {r : RtcReg} (selected : (m.readsRtc && m.reg == r) = true) (a : Addr) :
    decodeRdXram m a = decodeRtcRd r := by
  obtain ⟨reads, reg⟩ := (Bool.and_eq_true _ _).mp selected
  rw [decodeRdXram, if_pos reads, eq_of_beq reg]

theorem decodeWrXram_of_rtc {r : RtcReg} (selected : (m.writesRtc && m.reg == r) = true) (a : Addr) (d : Byte) :
    decodeWrXram m a d = decodeRtcWr r d := by
  obtain ⟨writes, reg⟩ := (Bool.and_eq_true _ _).mp selected
  rw [decodeWrXram, if_pos writes, eq_of_beq reg]

theorem decodeRdXram_of_txMr (selected : m.readsTx 0#2 = true) (a : Addr) :
    decodeRdXram m a = decodeTxRdMr (low2 a) := by
  obtain ⟨tpp1, -⟩ := DecodeMode.variant_of_readsTx selected
  rw [decodeRdXram, DecodeMode.readsRtc_of_tpp1 tpp1, if_neg Bool.false_ne_true, if_pos selected]

theorem decodeRdXram_of_txClock (selected : m.readsTx 3#2 = true) (a : Addr) :
    decodeRdXram m a = decodeTxRdClock (low2 a) := by
  obtain ⟨tpp1, curmap⟩ := DecodeMode.variant_of_readsTx selected
  have noMr : ¬ m.readsTx 0#2 = true := fun mr =>
    absurd (curmap.symm.trans (DecodeMode.variant_of_readsTx mr).2) (by decide)
  rw [decodeRdXram, DecodeMode.readsRtc_of_tpp1 tpp1, if_neg Bool.false_ne_true, if_neg noMr, if_pos selected]

theorem decodeWrXram_of_tx (selected : m.writesTx = true) (a : Addr) (d : Byte) :
    decodeWrXram m a d = decodeTxWr (low2 a) d := by
  rw [decodeWrXram, DecodeMode.writesRtc_of_writesTx selected, if_neg Bool.false_ne_true, if_pos selected]

theorem decodeRdXram_of_ram {off : BitVec 13} (selected : (Instr.rdXram off).selectedBy m = true) (a : Addr) :
    decodeRdXram m a = .rdXram (a.extractLsb' 0 13) := by
  simp only [Instr.selectedBy, Bool.and_eq_true, Bool.not_eq_true'] at selected
  obtain ⟨⟨noRtc, noMr⟩, noClock⟩ := selected
  rw [decodeRdXram, noRtc, noMr, noClock]
  rfl

theorem decodeWrXram_of_ram {off : BitVec 13} {data : Byte} (selected : (Instr.wrXram off data).selectedBy m = true)
    (a : Addr) (d : Byte) : decodeWrXram m a d = .wrXram (a.extractLsb' 0 13) d := by
  simp only [Instr.selectedBy, Bool.and_eq_true, Bool.not_eq_true'] at selected
  obtain ⟨noRtc, noTx⟩ := selected
  rw [decodeWrXram, noRtc, noTx]
  rfl

/-- `addr & 3` of a word whose row reads it. -/
theorem low2_of_selects (sel : Row.selects ⟨rowVariant, pattern, mask⟩ t = true)
    (read : mask.extractLsb' 8 2 = BitVec.allOnes 2) : low2 (tAddr t) = low2 (tAddr pattern) :=
  tAddr_extractLsb'_eq_of_and_eq (Row.and_mask_eq_of_selects sel) (by decide) read

/-! ## Control-register rows (R123 to R126) -/

/-- The region of a word whose row reads it. -/
theorem region_of_selects (sel : Row.selects ⟨rowVariant, pattern, mask⟩ t = true)
    (read : mask.extractLsb' 21 2 = BitVec.allOnes 2) : region (tAddr t) = region (tAddr pattern) :=
  tAddr_extractLsb'_eq_of_and_eq (Row.and_mask_eq_of_selects sel) (by decide) read

/-- A row whose mask reads every bit of its variant's format decodes as at the address of its pattern. -/
theorem decode_formatRow {v : Variant} (variant : (m.variant == v) = true)
    (sel : Row.selects ⟨rowVariant, pattern, mask⟩ t = true) (readKind : mask.extractLsb' 23 2 = BitVec.allOnes 2)
    (readFormat : mask &&& formatMask v = formatMask v) (write : pattern.extractLsb' 23 2 = 0b10#2) :
    decode m t = decodeControl v (tAddr pattern) (tData t) := by
  rw [decode_controlWrite variant (Row.field_of_selects sel readKind write)]
  exact decodeControl_eq_of_formatMask (and_eq_of_submask (Row.and_mask_eq_of_selects sel) readFormat) _

/-- Regions 2 and 3 lie above `0x4000`. -/
theorem pick4_region_of_upper {a : Addr} (upper : a.getLsbD 14 = true) (i0 i1 i2 : Instr) :
    pick4 (region a) i0 i1 i2 i2 = i2 := by
  have bit : (region a).getLsbD 1 = true := by
    rw [region, BitVec.getLsbD_extractLsb', upper]
    rfl
  have low : ∀ k : BitVec 2, k.getLsbD 1 = true → k ≠ 0#2 ∧ k ≠ 1#2 := by decide
  obtain ⟨not0, not1⟩ := low _ bit
  rw [pick4, if_neg not0, if_neg not1, ite_self]

end

/-- The word a row selects, where the row's conditions hold, decodes to the row; an ignored MR3 code gives way to the
commands (R315). -/
theorem decode_ctorIdx_of_selects {m : DecodeMode} {t : Word} {i : Instr} (selected : i.selectedBy m = true)
    (sel : i.row.selects t = true) (notIgn : ∀ code, i ≠ .tpp1Mr3ign code) : (decode m t).ctorIdx = i.ctorIdx := by
  cases i with
  | rdRom0 | rdRomx =>
    rw [decode_romRead m (Row.field_of_selects sel rfl rfl), Row.addrBit_of_selects sel (by decide) rfl rfl]
    rfl
  | rdXram =>
    rw [decode_xramRead (Row.field_of_selects sel rfl rfl), decodeRdXram_of_ram selected]
    rfl
  | wrXram =>
    rw [decode_xramWrite (Row.field_of_selects sel rfl rfl), decodeWrXram_of_ram selected]
    rfl
  | ext8000 =>
    rw [decode_of_window8000 m (Row.field_of_selects sel rfl rfl)]
    rfl
  | extC000 =>
    rw [decode_of_windowC000 m (Row.field_of_selects sel rfl rfl)]
    rfl
  | rtcRdS | rtcRdM | rtcRdH | rtcRdDl | rtcRdDh =>
    rw [decode_xramRead (Row.field_of_selects sel rfl rfl), decodeRdXram_of_rtc selected]
    rfl
  | rtcWrS | rtcWrM | rtcWrH | rtcWrDl | rtcWrDh =>
    rw [decode_xramWrite (Row.field_of_selects sel rfl rfl), decodeWrXram_of_rtc selected]
    rfl
  | txRdMr0 | txRdMr1 | txRdMr2 | txRdMr3 =>
    rw [decode_xramRead (Row.field_of_selects sel rfl rfl), decodeRdXram_of_txMr selected, low2_of_selects sel rfl]
    rfl
  | txRdW | txRdH | txRdM | txRdS =>
    rw [decode_xramRead (Row.field_of_selects sel rfl rfl), decodeRdXram_of_txClock selected, low2_of_selects sel rfl]
    rfl
  | txWrW | txWrH | txWrM | txWrS =>
    rw [decode_xramWrite (Row.field_of_selects sel rfl rfl), decodeWrXram_of_tx selected, low2_of_selects sel rfl]
    rfl
  | plainRamen | plainIgnR1 | mbc1Ramen | mbc1Bank1 | mbc1Bank2 | mbc1Mode | m64Ramen | m64Bank1 | m64Bank2 | m64Mode
  | mbc2Ramen | mbc2Romb | mbc2Ign0100 | mbc2Ign2000 | mbc3Ramen | mbc3Romb | mbc3Ramb | mbc3Latch | huc1Ramen
  | huc1Romb | huc1Ramb | huc1Mode | mbc5Romb0 | mbc5Romb1 | tpp1Mr0 | tpp1Mr1 | tpp1Mr2 =>
    rw [decode_formatRow selected sel rfl rfl rfl]
    rfl
  | plainIgnR23 =>
    rw [decode_controlWrite selected (Row.field_of_selects sel rfl rfl), decodeControl, decodePlain,
      pick4_region_of_upper (Row.addrBit_of_selects sel (by decide) rfl rfl)]
    rfl
  | mbc2IgnHi =>
    rw [decode_controlWrite selected (Row.field_of_selects sel rfl rfl), decodeControl, decodeMbc2_eq,
      pick4_region_of_upper (Row.addrBit_of_selects sel (by decide) rfl rfl)]
    rfl
  | mbc5Ramen | mbc5Ramb | mbc5Ign =>
    rw [decode_controlWrite selected (Row.field_of_selects sel rfl rfl), decodeControl, decodeMbc5,
      region_of_selects sel rfl]
    rfl
  | tpp1Map0 | tpp1Map1 | tpp1Map2 | tpp1Map3 | tpp1Latch | tpp1Settime | tpp1Clrovf | tpp1Halt | tpp1Resume =>
    have code : tData t = _ := Row.field_of_selects sel rfl rfl
    rw [decode_mr3 (eq_of_beq selected) (Row.field_of_selects sel rfl rfl) (Row.field_of_selects sel rfl rfl), code]
    rfl
  | tpp1Rumble =>
    have code : (tData t).extractLsb' 2 6 = 0b001000#6 :=
      (BitVec.extractLsb'_extractLsb'_of_le (by decide)).trans (Row.field_of_selects sel rfl rfl)
    rw [decode_mr3 (eq_of_beq selected) (Row.field_of_selects sel rfl rfl) (Row.field_of_selects sel rfl rfl),
      decodeMr3_of_rumble code]
    rfl
  | tpp1Mr3ign code => exact absurd rfl (notIgn code)
  | tpp1Ign =>
    have upper : (tAddr t).getLsbD 14 = true := Row.addrBit_of_selects sel (by decide) rfl rfl
    rw [decode_controlWrite selected (Row.field_of_selects sel rfl rfl), decodeControl, decodeTpp1, if_pos upper]
    rfl

/-- Settles O4: both rows are the one the word decodes to. -/
theorem rowsExcludeEachOther : Obligations.RowsExcludeEachOther := by
  have row (m : DecodeMode) (t : Word) (i : Instr) (selected : i.selectedBy m = true) (sel : i.row.selects t = true) :
      (decode m t).ctorIdx = i.ctorIdx ∨ ∃ code, i = .tpp1Mr3ign code :=
    or_iff_not_imp_right.mpr fun notIgn => decode_ctorIdx_of_selects selected sel fun code e => notIgn ⟨code, e⟩
  refine ⟨row, fun m t i j selectedI selI selectedJ selJ => ?_⟩
  rcases row m t i selectedI selI with idxI | ign
  · rcases row m t j selectedJ selJ with idxJ | ign
    · exact .inl (idxI.symm.trans idxJ)
    · exact .inr (.inr ign)
  · exact .inr (.inl ign)

end Sys2Proof
end

section
/-! Every word decodes to a well-formed transaction of a row that selects it (spec/30_encoding.md R122, R131 to R133,
R136). -/

namespace Sys2Proof

/-! ## The fields a row reads -/

/-- The words agree in each of the fields, given by lowest bit and length. -/
inductive AgreeOn (x y : Word) : List (Nat × Nat) → Prop
  | nil : AgreeOn x y []
  | cons {start len : Nat} {fields : List (Nat × Nat)} (same : x.extractLsb' start len = y.extractLsb' start len)
      (rest : AgreeOn x y fields) : AgreeOn x y ((start, len) :: fields)

section
variable {t t' : Word} {fields : List (Nat × Nat)}

theorem AgreeOn.bit {i : Nat} (same : t.getLsbD i = t'.getLsbD i) (rest : AgreeOn t t' fields) :
    AgreeOn t t' ((i, 1) :: fields) := by
  refine .cons (BitVec.eq_of_getLsbD_eq fun k lt => ?_) rest
  obtain rfl : k = 0 := by omega
  rw [BitVec.getLsbD_extractLsb', BitVec.getLsbD_extractLsb', Nat.add_zero, same]

theorem AgreeOn.kind (same : tRw t = tRw t') (rest : AgreeOn t t' fields) : AgreeOn t t' ((24, 1) :: fields) :=
  .bit same rest

theorem AgreeOn.addrBit {i : Nat} (same : (tAddr t).getLsbD i = (tAddr t').getLsbD i) (rest : AgreeOn t t' fields)
    (inside : i < 16 := by decide) : AgreeOn t t' ((8 + i, 1) :: fields) := by
  rw [getLsbD_tAddr t inside, getLsbD_tAddr t' inside] at same
  exact .bit same rest

theorem AgreeOn.addr {start len : Nat} (same : (tAddr t).extractLsb' start len = (tAddr t').extractLsb' start len)
    (rest : AgreeOn t t' fields) (inside : start + len ≤ 16 := by decide) : AgreeOn t t' ((8 + start, len) :: fields) := by
  rw [extractLsb'_tAddr t inside, extractLsb'_tAddr t' inside] at same
  exact .cons same rest

end

/-- The bit lies in one of the fields. -/
def inFields (i : Nat) (fields : List (Nat × Nat)) : Bool :=
  fields.any fun (start, len) => decide (start ≤ i ∧ i < start + len)

theorem AgreeOn.getLsbD_eq {x y : Word} {i : Nat} {fields : List (Nat × Nat)} (agree : AgreeOn x y fields)
    (inside : inFields i fields = true) : x.getLsbD i = y.getLsbD i := by
  induction agree with
  | nil => nomatch inside
  | @cons start len fields same rest ih =>
    rw [inFields, List.any_cons, Bool.or_eq_true, decide_eq_true_iff] at inside
    rcases inside with ⟨le, lt⟩ | later
    · have bit := getLsbD_of_extractLsb' same (i := i - start) (by omega)
      rwa [BitVec.getLsbD_extractLsb', decide_eq_true (by omega), Bool.true_and, Nat.add_sub_cancel' le] at bit
    · exact ih later

/-- Every bit that the mask reads lies in one of the fields. -/
def readsOnly (mask : Word) (fields : List (Nat × Nat)) : Bool :=
  (List.range 25).all fun i => !mask.getLsbD i || inFields i fields

theorem AgreeOn.and_eq {x y mask : Word} {fields : List (Nat × Nat)} (agree : AgreeOn x y fields)
    (reads : readsOnly mask fields = true) : x &&& mask = y &&& mask := by
  apply BitVec.eq_of_getLsbD_eq
  intro i lt
  have read := List.all_eq_true.mp reads i (List.mem_range.mpr lt)
  rw [BitVec.getLsbD_and, BitVec.getLsbD_and]
  cases bit : mask.getLsbD i with
  | false => rw [Bool.and_false, Bool.and_false]
  | true =>
    rw [bit] at read
    rw [agree.getLsbD_eq read]

/-- A word that agrees with the pattern in the fields that the mask reads is selected. -/
theorem Row.selects_of_agreeOn {v : Option Variant} {pattern mask t : Word} {fields : List (Nat × Nat)}
    (agree : AgreeOn t pattern fields) (reads : readsOnly mask fields = true)
    (inside : Row.selects ⟨v, pattern, mask⟩ pattern = true) : Row.selects ⟨v, pattern, mask⟩ t = true := by
  rwa [Row.selects, agree.and_eq reads]

/-! ## Control-register rows -/

theorem decodeMr3_wf (code : Byte) : (decodeMr3 code).wf = true := by
  revert code
  decide

/-- An MR3 command is the word of its row, whose mask reads only the fields of such a command (R130). -/
theorem decodeMr3_row (code : Byte) :
    readsOnly (decodeMr3 code).row.mask [(24, 1), (23, 1), (22, 1), (8, 2), (0, 8)] = true ∧
      (decodeMr3 code).row.selects (pack true 0x0003#16 code) = true := by
  revert code
  decide

theorem pick4_wf {k : BitVec 2} {i0 i1 i2 i3 : Instr} (h0 : i0.wf = true) (h1 : i1.wf = true) (h2 : i2.wf = true)
    (h3 : i3.wf = true) : (pick4 k i0 i1 i2 i3).wf = true :=
  pick4_ind (fun i => i.wf = true) k i0 i1 i2 i3 (fun _ => h0) (fun _ => h1) (fun _ => h2) (fun _ => h3)

theorem decodeControl_wf (v : Variant) (a : Addr) (d : Byte) : (decodeControl v a d).wf = true := by
  cases v with
  | plain | mbc1 | mbc1m64 | mbc3 | huc1 => exact pick4_wf rfl rfl rfl rfl
  | mbc5 =>
    refine pick4_wf rfl ?_ rfl rfl
    split <;> rfl
  | mbc2 =>
    rw [decodeControl, decodeMbc2_eq]
    refine pick4_wf ?_ ?_ rfl rfl <;> split <;> rfl
  | tpp1 =>
    rw [decodeControl, decodeTpp1]
    split
    · rfl
    · exact pick4_wf rfl rfl rfl (decodeMr3_wf d)

section
variable {t : Word} (write : tRw t = true) (low : (tAddr t).getLsbD 15 = false)
include write low

theorem decodeMr3_selects (bit14 : (tAddr t).getLsbD 14 = false) (register : low2 (tAddr t) = 3#2) :
    (decodeMr3 (tData t)).row.selects t = true := by
  obtain ⟨reads, sel⟩ := decodeMr3_row (tData t)
  have addr := tAddr_pack true 0x0003#16 (tData t)
  have datum := tData_pack true 0x0003#16 (tData t)
  have agree : AgreeOn t (pack true 0x0003#16 (tData t)) [(24, 1), (23, 1), (22, 1), (8, 2), (0, 8)] :=
    .kind (write.trans (tRw_pack _ _ _).symm) <| .addrBit (i := 15) (by rw [low, addr]; rfl) <|
      .addrBit (i := 14) (by rw [bit14, addr]; rfl) <| .addr (start := 0) (register.trans (by rw [addr]; rfl)) <|
      .cons datum.symm .nil
  rwa [Row.selects, agree.and_eq reads]

/-- A control-register write decodes to a row that selects it. -/
theorem decodeControl_selects (v : Variant) : (decodeControl v (tAddr t) (tData t)).row.selects t = true := by
  have upper {k : BitVec 2} (region : region (tAddr t) = k) : (tAddr t).getLsbD 14 = k.getLsbD 1 :=
    getLsbD_of_extractLsb' region (i := 1) (by decide)
  cases v with
  | mbc1 | mbc1m64 | mbc3 | huc1 =>
    refine pick4_ind (fun i => i.row.selects t = true) _ _ _ _ _ ?_ ?_ ?_ ?_ <;> exact fun region =>
      Row.selects_of_agreeOn (.kind write (.addrBit low (.addr region .nil))) rfl rfl
  | plain =>
    refine pick4_ind (fun i => i.row.selects t = true) _ _ _ _ _ (fun region => ?_) (fun region => ?_)
      (fun region => ?_) (fun region => ?_)
    · exact Row.selects_of_agreeOn (.kind write (.addrBit low (.addr region .nil))) rfl rfl
    · exact Row.selects_of_agreeOn (.kind write (.addrBit low (.addr region .nil))) rfl rfl
    · exact Row.selects_of_agreeOn (.kind write (.addrBit low (.addrBit (upper region) .nil))) rfl rfl
    · exact Row.selects_of_agreeOn (.kind write (.addrBit low (.addrBit (upper region) .nil))) rfl rfl
  | mbc5 =>
    refine pick4_ind (fun i => i.row.selects t = true) _ _ _ _ _ (fun region => ?_) (fun region => ?_)
      (fun region => ?_) (fun region => ?_)
    · exact Row.selects_of_agreeOn (.kind write (.addrBit low (.addr region .nil))) rfl rfl
    · cases bit12 : (tAddr t).getLsbD 12 <;>
        exact Row.selects_of_agreeOn (.kind write (.addrBit low (.addr region (.addrBit bit12 .nil)))) rfl rfl
    · exact Row.selects_of_agreeOn (.kind write (.addrBit low (.addr region .nil))) rfl rfl
    · exact Row.selects_of_agreeOn (.kind write (.addrBit low (.addr region .nil))) rfl rfl
  | mbc2 =>
    rw [decodeControl, decodeMbc2_eq]
    refine pick4_ind (fun i => i.row.selects t = true) _ _ _ _ _ (fun region => ?_) (fun region => ?_)
      (fun region => ?_) (fun region => ?_)
    · cases bit8 : (tAddr t).getLsbD 8 <;>
        exact Row.selects_of_agreeOn (.kind write (.addrBit low (.addr region (.addrBit bit8 .nil)))) rfl rfl
    · cases bit8 : (tAddr t).getLsbD 8 <;>
        exact Row.selects_of_agreeOn (.kind write (.addrBit low (.addr region (.addrBit bit8 .nil)))) rfl rfl
    · exact Row.selects_of_agreeOn (.kind write (.addrBit low (.addrBit (upper region) .nil))) rfl rfl
    · exact Row.selects_of_agreeOn (.kind write (.addrBit low (.addrBit (upper region) .nil))) rfl rfl
  | tpp1 =>
    rw [decodeControl, decodeTpp1]
    cases bit14 : (tAddr t).getLsbD 14 with
    | true => exact Row.selects_of_agreeOn (.kind write (.addrBit low (.addrBit bit14 .nil))) rfl rfl
    | false =>
      refine pick4_ind (fun i => i.row.selects t = true) _ _ _ _ _ (fun register => ?_) (fun register => ?_)
        (fun register => ?_) (decodeMr3_selects write low bit14)
      all_goals
        exact Row.selects_of_agreeOn (.kind write (.addrBit low (.addrBit bit14 (.addr register .nil)))) rfl rfl

end

/-! ## Every word -/

/-- Every word is one that the row it decodes to selects. -/
theorem decode_selects (m : DecodeMode) (t : Word) : (decode m t).row.selects t = true := by
  refine decode_ind (fun i => i.row.selects t = true) m t (fun window => ?ext8000) (fun window => ?extC000)
    (fun window write => ?wrXram) (fun window read => ?rdXram)
    (fun low write => decodeControl_selects write low m.variant) (fun window read => ?romx) (fun window read => ?rom0)
  case ext8000 => exact Row.selects_of_agreeOn (.addr window .nil) rfl rfl
  case extC000 => exact Row.selects_of_agreeOn (.addr window .nil) rfl rfl
  case romx => exact Row.selects_of_agreeOn (.kind read (.addr window .nil)) rfl rfl
  case rom0 => exact Row.selects_of_agreeOn (.kind read (.addr window .nil)) rfl rfl
  case wrXram =>
    refine decodeWrXram_ind (fun i => i.row.selects t = true) m _ _ (fun _ => ?_) (fun _ => ?_) (fun _ _ => ?_)
    · cases m.reg <;> exact Row.selects_of_agreeOn (.kind write (.addr window .nil)) rfl rfl
    · refine pick4_ind (fun i => i.row.selects t = true) _ _ _ _ _ ?_ ?_ ?_ ?_ <;> exact fun register =>
        Row.selects_of_agreeOn (.kind write (.addr window (.addr register .nil))) rfl rfl
    · exact Row.selects_of_agreeOn (.kind write (.addr window .nil)) rfl rfl
  case rdXram =>
    refine decodeRdXram_ind (fun i => i.row.selects t = true) m _ (fun _ => ?_) (fun _ => ?_) (fun _ => ?_)
      (fun _ _ _ => ?_)
    · cases m.reg <;> exact Row.selects_of_agreeOn (.kind read (.addr window .nil)) rfl rfl
    · refine pick4_ind (fun i => i.row.selects t = true) _ _ _ _ _ ?_ ?_ ?_ ?_ <;> exact fun register =>
        Row.selects_of_agreeOn (.kind read (.addr window (.addr register .nil))) rfl rfl
    · refine pick4_ind (fun i => i.row.selects t = true) _ _ _ _ _ ?_ ?_ ?_ ?_ <;> exact fun register =>
        Row.selects_of_agreeOn (.kind read (.addr window (.addr register .nil))) rfl rfl
    · exact Row.selects_of_agreeOn (.kind read (.addr window .nil)) rfl rfl

theorem decode_wf (m : DecodeMode) (t : Word) : (decode m t).wf = true := by
  have noDatum : readHasNoDatum (tRw t) (extData t) = true := by
    rw [extData]
    cases tRw t <;> rfl
  refine decode_ind (fun i => i.wf = true) m t (fun _ => noDatum) (fun _ => noDatum) (fun _ _ => ?wrXram)
    (fun _ _ => ?rdXram) (fun _ _ => decodeControl_wf m.variant _ _) (fun _ _ => rfl) (fun _ _ => rfl)
  case wrXram =>
    refine decodeWrXram_ind (fun i => i.wf = true) m _ _ (fun _ => ?_) (fun _ => ?_) (fun _ _ => rfl)
    · cases m.reg <;> rfl
    · exact pick4_wf rfl rfl rfl rfl
  case rdXram =>
    refine decodeRdXram_ind (fun i => i.wf = true) m _ (fun _ => ?_) (fun _ => ?_) (fun _ => ?_) (fun _ _ _ => rfl)
    · cases m.reg <;> rfl
    · exact pick4_wf rfl rfl rfl rfl
    · exact pick4_wf rfl rfl rfl rfl

/-- A row that a mode selects is one of every variant or of the mode's. -/
theorem row_variant_of_selectedBy {m : DecodeMode} {i : Instr} (selected : i.selectedBy m = true) :
    i.row.variant = none ∨ i.row.variant = some m.variant := by
  cases i with
  | rdRom0 | rdRomx | rdXram | wrXram | ext8000 | extC000 => exact .inl rfl
  | rtcRdS | rtcRdM | rtcRdH | rtcRdDl | rtcRdDh =>
    simp only [Instr.selectedBy, DecodeMode.readsRtc, Bool.and_eq_true, beq_iff_eq] at selected
    obtain ⟨⟨⟨⟨mbc3, -⟩, -⟩, -⟩, -⟩ := selected
    exact .inr (congrArg some mbc3.symm)
  | rtcWrS | rtcWrM | rtcWrH | rtcWrDl | rtcWrDh =>
    simp only [Instr.selectedBy, DecodeMode.writesRtc, Bool.and_eq_true, beq_iff_eq] at selected
    obtain ⟨⟨⟨⟨mbc3, -⟩, -⟩, -⟩, -⟩ := selected
    exact .inr (congrArg some mbc3.symm)
  | txRdMr0 | txRdMr1 | txRdMr2 | txRdMr3 | txRdW | txRdH | txRdM | txRdS =>
    obtain ⟨tpp1, -⟩ := DecodeMode.variant_of_readsTx selected
    exact .inr (congrArg some tpp1.symm)
  | txWrW | txWrH | txWrM | txWrS =>
    simp only [Instr.selectedBy, DecodeMode.writesTx, Bool.and_eq_true, beq_iff_eq] at selected
    obtain ⟨⟨⟨tpp1, -⟩, -⟩, -⟩ := selected
    exact .inr (congrArg some tpp1.symm)
  | _ => exact .inr (congrArg some (eq_of_beq selected).symm)

/-- Settles O3: the row a word decodes to selects it, and so does the mode. -/
theorem decodedRowMatches : Obligations.DecodedRowMatches := fun m t =>
  have selected := decode_selectedBy m t
  ⟨decode_wf m t, selected, decode_selects m t, row_variant_of_selectedBy selected⟩

end Sys2Proof
end

section
/-! Decoding undoes encoding, and written words (spec/30_encoding.md R120 to R136); every transaction completes
(spec/60_exceptions.md R340). -/

namespace Sys2Proof

/-- Settles O2: decoding undoes encoding. -/
theorem decodeOfEncode : Obligations.DecodeOfEncode := fun _ _ => decode_encode

/-- Settles O1: the decoder run on each word. -/
theorem writtenWordsDecode : Obligations.WrittenWordsDecode := by
  intro m
  and_intros <;> rfl

end Sys2Proof

namespace Sys2Proof.Machine

/-- In a state of the invariant every transaction completes: a window access is inside its image, and no other can fail. -/
theorem exec_completes {s : State} (inv : Invariant s) (i : Instr) : ∃ t, exec i s = .next t := by
  obtain ⟨rom0, rom, -⟩ := windowsStayInsideImages s inv
  cases i with
  | rdRom0 off => exact ⟨_, readRom_inside (romIndex_lt rom0 off)⟩
  | rdRomx off => exact ⟨_, readRom_inside (romIndex_lt rom off)⟩
  | rdXram off => exact ⟨_, ramWindowRead s off inv⟩
  | wrXram off data => exact wrXram_completes inv off data
  | mbc1Bank2 data =>
    cases mode : s.mapper.ramBankMode with
    | false => exact ⟨_, exec_mbc1Bank2_rom data s mode⟩
    | true => exact ⟨_, exec_mbc1Bank2_ram data s mode⟩
  | huc1Ramb data =>
    cases mode : s.mapper.ramBankMode with
    | false => exact ⟨_, exec_huc1Ramb_rom data s mode⟩
    | true => exact ⟨_, exec_huc1Ramb_ram data s mode⟩
  | mbc3Latch data =>
    cases wired : s.cfg.rtcWired with
    | false => exact ⟨_, exec_mbc3Latch_unwired data s wired⟩
    | true => exact ⟨_, if_pos wired⟩
  | _ => exact ⟨_, rfl⟩

/-- Settles O7: the queue aside, the state a step meets is one of the invariant, and no transaction changes the queue,
the configuration or whether a cartridge is loaded. -/
theorem everyTransactionCompletes : Obligations.EveryTransactionCompletes := by
  refine ⟨fun i s inv => exec_completes inv i, fun s t rest inv issued => ?_⟩
  have ⟨live, queue⟩ := issued
  have waiting : ∀ r ∈ rest, r.Legal := fun r mem => inv.requests r (queue ▸ List.mem_cons_of_mem _ mem)
  have taken : Invariant { s with queue := rest } :=
    inv.of_sameControl (.of_eq rfl rfl rfl rfl rfl) inv.ram inv.rom waiting
  obtain ⟨s', next⟩ := exec_completes taken (decode (decodeMode s) t)
  have frame := exec_frame _ _ _ next
  exact ⟨s', issued.step_eq.trans next, frame.queue, frame.live.trans live, frame.cfg⟩

end Sys2Proof.Machine
end

section
/-! The MBC3 clock (spec/41_rtc_mbc3.md): the latch, the register reads, the register writes; MBC3 RAM enable and bank
(spec/46_mbc3.md). -/

namespace Sys2Proof.Machine

/-! ## The latch -/

/-- The four lower registers after a latch, by the seconds elapsed and not by what is left of the last period. -/
theorem rtcLatchAt_registers (t : Time) (r : Rtc) {e : Nat} (elapsed : e = (rtcElapsed t r).toNat) :
    (rtcLatchAt t r).s.toNat = e % 60 ∧ (rtcLatchAt t r).m.toNat = e / 60 % 60 ∧
      (rtcLatchAt t r).h.toNat = e / 3600 % 24 ∧ (rtcLatchAt t r).dl.toNat = e / 86400 % 256 := by
  rw [rtcLatchAt_eq, ← elapsed]
  simp only [BitVec.toNat_ofNat]
  refine ⟨?_, ?_, ?_, ?_⟩ <;> omega

/-- The three parts of DH after a latch: day bit, carry, and the bits kept. -/
theorem rtcLatchAt_dayHigh (t : Time) (r : Rtc) {e : Nat} (elapsed : e = (rtcElapsed t r).toNat) :
    (rtcLatchAt t r).dh.getLsbD 0 = decide (e / 86400 % 512 ≥ 256) ∧
      (rtcLatchAt t r).dh.getLsbD 7 = (r.dh.getLsbD 7 || decide (512 ≤ e / 86400)) ∧
      (rtcLatchAt t r).dh.extractLsb' 1 6 = r.dh.extractLsb' 1 6 := by
  have day : (e % 44236800 / 86400 / 256 % 2 == 1) = decide (e / 86400 % 512 ≥ 256) := by
    rw [Bool.eq_iff_iff, beq_iff_eq, decide_eq_true_iff]
    omega
  have period : 44236800 ≤ e ↔ 512 ≤ e / 86400 := by omega
  rw [rtcLatchAt_eq, ← elapsed, day, decide_eq_decide.mpr period]
  exact dhLatched_parts _ _ _

/-- An operation that replaces the MBC3 clock and counts `now()` changes nothing else. -/
theorem onlyRtc_replaced (s : State) (r : Rtc) (n : Nat) :
    OnlyRtc s { s with rtc := r, nowCalls := n, answer := .done } :=
  ⟨rfl, sameImages_of_eq rfl rfl⟩

/-- Settles O17: the three cases of R172 and R274; on the edge the period loop is in closed form (`rtcLatchAt_eq`). -/
theorem rtcLatchOnEdge : Obligations.RtcLatchOnEdge := by
  refine ⟨fun s data unwired => exec_mbc3Latch_unwired data s unwired, fun s data wired noEdge => ?_,
    fun s data e wired before edge elapsed => ?_⟩
  · have noEdge' : s.rtc.lastLatch = true ∨ dataBit0 data = false :=
      noEdge.imp_right fun even => by rw [dataBit0_eq, even]; rfl
    rw [exec_mbc3Latch_no_edge data s wired noEdge', dataBit0_eq]
  · have bit0 : dataBit0 data = true := by rw [dataBit0_eq, edge]; rfl
    have calls : (if dhHalt s.rtc.dh then s.nowCalls else s.nowCalls + 1) =
        s.nowCalls + (if s.rtc.dh.getLsbD 6 then 0 else 1) := (apply_ite (s.nowCalls + ·) _ 0 1).symm
    have base : (rtcLatchAt (now s) s.rtc).baseTime = s.rtc.baseTime + seconds (e / 44236800 * 44236800) := by
      rw [rtcLatchAt_eq, elapsed]
      rfl
    obtain ⟨sec, min, hour, day⟩ := rtcLatchAt_registers (now s) s.rtc elapsed
    obtain ⟨dayBit, carry, kept⟩ := rtcLatchAt_dayHigh (now s) s.rtc elapsed
    exact ⟨_, exec_mbc3Latch_edge data s wired before bit0, onlyRtc_replaced s _ _, calls,
      by rw [rtcLatchAt_eq], base, sec, min, hour, day, dayBit, carry, kept⟩

/-! ## Register reads -/

/-- A clock register read returns what `RTC.read()` returns with some register selected. -/
theorem exec_rtcRd_of_mem {i : Instr} (read : i ∈ [Instr.rtcRdS, .rtcRdM, .rtcRdH, .rtcRdDl, .rtcRdDh]) :
    ∃ r : RtcReg, ∀ s : State, exec i s = .next { s with answer := .byte (rtcRead { s.rtc with index := r }) } := by
  simp only [List.mem_cons, List.not_mem_nil, or_false] at read
  rcases read with rfl | rfl | rfl | rfl | rfl
  · exact ⟨.s, exec_rtcRdS⟩
  · exact ⟨.m, exec_rtcRdM⟩
  · exact ⟨.h, exec_rtcRdH⟩
  · exact ⟨.dl, exec_rtcRdDl⟩
  · exact ⟨.dh, exec_rtcRdDh⟩

theorem rtcRead_reset (r : RtcReg) : rtcRead { Rtc.reset with index := r } = 0#8 := by
  cases r <;> rfl

/-- Settles O16: each read is the latched copy of one register; neither the address nor the host clock enters. -/
theorem rtcRegisterReads : Obligations.RtcRegisterReads := by
  refine ⟨fun s => ⟨exec_rtcRdS s, exec_rtcRdM s, exec_rtcRdH s, exec_rtcRdDl s, exec_rtcRdDh s⟩,
    fun m t mbc3 wired re clock window => ?_, fun s v i read => ?_, fun c rom i read => ?_⟩
  · have selected : (m.readsRtc && m.reg == m.reg) = true := by
      simp [DecodeMode.readsRtc, mbc3, wired, re, clock]
    exact (decode_xramRead window).trans (decodeRdXram_of_rtc selected (tAddr t))
  · obtain ⟨r, done⟩ := exec_rtcRd_of_mem read
    exact ⟨_, done s, done { s with hostNow := v }⟩
  · obtain ⟨r, done⟩ := exec_rtcRd_of_mem read
    rw [done, ← rtcRead_reset r]
    rfl

/-! ## Register writes -/

/-- Moving the base time so that a field worth `old` seconds is worth `new` moves the elapsed time by the difference. -/
theorem sub_rebase (t base : Time) (old new : Nat) :
    t - rebase base old new = t - base - seconds old + seconds new := by
  unfold rebase
  ring

/-- A write of a field other than DH: the clock shows the new value of the field, halted or not. -/
theorem rtcElapsed_rebase (t : Time) {r r' : Rtc} {old new : Nat} (dh : r'.dh = r.dh) (halt : r'.haltTime = r.haltTime)
    (base : r'.baseTime = rebase r.baseTime old new) :
    rtcElapsed t r' = rtcElapsed t r - seconds old + seconds new := by
  rw [rtcElapsed, rtcRef, dh, halt, base]
  exact sub_rebase _ _ _ _

/-- Settles O18: each of the four writes rebases the clock by the field it stores. -/
theorem rtcFieldWrites : Obligations.RtcFieldWrites := by
  rintro s data e rfl
  exact ⟨⟨_, exec_rtcWrS data s, onlyRtc_replaced s _ _, rfl, rfl, rtcElapsed_rebase (now s) rfl rfl rfl⟩,
    ⟨_, exec_rtcWrM data s, onlyRtc_replaced s _ _, rfl, rfl, rtcElapsed_rebase (now s) rfl rfl rfl⟩,
    ⟨_, exec_rtcWrH data s, onlyRtc_replaced s _ _, rfl, rfl, rtcElapsed_rebase (now s) rfl rfl rfl⟩,
    ⟨_, exec_rtcWrDl data s, onlyRtc_replaced s _ _, rfl, rfl, rtcElapsed_rebase (now s) rfl rfl rfl⟩⟩

theorem dataBit0_toNat (data : Byte) : (dataBit0 data).toNat = data.toNat % 2 := by
  rw [dataBit0, BitVec.getLsbD, Nat.toNat_testBit, Nat.pow_zero, Nat.div_one]

/-- The day-bit part of a DH write, counted from the time the clock shows. -/
theorem sub_rtcDayBit (data : Byte) (s : State) (t : Time) :
    t - rtcDayBit data s = t - s.rtc.baseTime - seconds (rtcSeconds s / 86400 / 256 % 2 * (256 * 86400))
      + seconds (data.toNat % 2 * (256 * 86400)) := by
  rw [rtcDayBit, sub_rebase, dataBit0_toNat, Nat.mul_assoc, Nat.mul_assoc]

/-- After a DH write the clock counts from the time it showed before: at the time of the write, and while halted at
every time (R184). -/
theorem rtcElapsed_rtcWriteDh (data : Byte) (s : State) {v : Time} (at_write : v = now s ∨ dhHalt data = true) :
    rtcElapsed v (rtcWriteDh data s).rtc = rtcRef (now s) s.rtc - rtcDayBit data s := by
  simp only [rtcElapsed, rtcRef, rtcWriteDh, setRtc_rtc]
  have at_now (runs : dhHalt data = false) : v = now s := at_write.resolve_right (ne_true_of_eq_false runs)
  rcases Bool.eq_false_or_eq_true (dhHalt s.rtc.dh) with halted | running <;>
    rcases Bool.eq_false_or_eq_true (dhHalt data) with halts | runs
  · simp [halted, halts]
  · simp only [halted, runs, at_now runs, Bool.not_false, Bool.and_self, Bool.false_eq_true, if_true, if_false]
    ring
  · simp [running, halts]
  · simp [running, runs, at_now runs]

/-- Settles O19: halting and resuming are R184's (`rtcElapsed_rtcWriteDh`); the day bit is a rebase like the others. -/
theorem rtcDayHighWrite : Obligations.RtcDayHighWrite := by
  rintro s data e rfl
  refine ⟨_, exec_rtcWrDh data s, onlyRtc_replaced s _ _, rfl, rfl, ?_, fun v at_write => ?_⟩
  · simp [dhHalt]
  · exact (rtcElapsed_rtcWriteDh data s at_write).trans (sub_rtcDayBit data s _)

/-! ## MBC3 RAM enable and RAM bank -/

/-- The register a bank value leaves selected; S where it names none (R171). -/
theorem rtcRegOf_getD (bank : RamBank) :
    (rtcRegOf bank).getD .s =
      if bank.toNat = 0x09 then .m else if bank.toNat = 0x0A then .h else if bank.toNat = 0x0B then .dl
      else if bank.toNat = 0x0C then .dh else .s := by
  revert bank
  decide

/-- Settles O32: either write is one register followed by `aim_ram()`, whose closed form is `aimRamMbc3_eq`. -/
theorem mbc3RamEnableAndBank : Obligations.Mbc3RamEnableAndBank := by
  intro s data i enable bank legal write
  have done : exec i s =
      complete (aimRamMbc3 { s with mapper := { s.mapper with enableRam := enable, rambank := bank } }) := by
    rcases write with ⟨rfl, rfl, rfl⟩ | ⟨rfl, rfl, rfl⟩
    · rw [← enables, ← ramEnableValue_eq]
      rfl
    · rfl
  rw [aimRamMbc3_eq, rtcRegOf_isSome, rtcRegOf_getD] at done
  refine ⟨_, done, rfl, sameImages_of_eq rfl rfl, rfl, rfl, effRam_toNat _ _ legal, fun unwired => ?_, fun wired => ?_⟩
  · simp [unwired]
  · simp [wired]

end Sys2Proof.Machine
end

section
/-! The TPP1 extension (spec/42_tpp1_extension.md): the register window, the latch and its decomposition law, settime, halt
and resume. -/

namespace Sys2Proof.Machine

/-- An operation that replaces the TPP1 extension and counts `now()` changes nothing else. -/
theorem onlyTx_replaced (s : State) (x : Tx) (n : Nat) :
    OnlyTx s { s with tx := x, nowCalls := n, answer := .done } :=
  ⟨rfl, sameImages_of_eq rfl rfl⟩

/-! ## The latch -/

/-- The H byte: the day in its upper three bits, the hour in its lower five (R204). -/
theorem dayHour_toNat {day hour : Nat} (hd : day < 8) (hh : hour < 32) :
    (BitVec.ofNat 3 day ++ BitVec.ofNat 5 hour : Byte).toNat = day * 32 + hour := by
  rw [BitVec.toNat_append, BitVec.toNat_ofNat, BitVec.toNat_ofNat, Nat.mod_eq_of_lt hd, Nat.mod_eq_of_lt hh,
    Nat.shiftLeft_eq]
  exact nat_or_parts day hour 5 hh

/-- The four bytes after a latch, by the seconds elapsed and not by what is left of the last period. -/
theorem txLatchAt_registers (t : Time) (x : Tx) {e : Nat} (elapsed : e = (txElapsed t x).toNat) :
    (txLatchAt t x).w.toNat = e / 604800 % 256 ∧ (txLatchAt t x).h.toNat = e / 86400 % 7 * 32 + e / 3600 % 24 ∧
      (txLatchAt t x).m.toNat = e / 60 % 60 ∧ (txLatchAt t x).s.toNat = e % 60 := by
  rw [txLatchAt_eq, ← elapsed, dayHour_toNat (by omega) (by omega)]
  simp only [BitVec.toNat_ofNat]
  refine ⟨?_, ?_, ?_, ?_⟩ <;> omega

/-- How a latch or a settime counts `now()`: once if the clock runs. -/
theorem nowCalls_ifRunning (n : Nat) (running : Bool) :
    (if running then n + 1 else n) = n + (if running then 1 else 0) := (apply_ite (n + ·) _ 1 0).symm

/-- Settles O23: the period loop is in closed form (`txLatchAt_eq`), the bytes by the seconds elapsed. (`txLatch` itself
is the model's operation.) -/
theorem txLatch_spec : Obligations.TxLatch := by
  intro s e elapsed
  obtain ⟨week, dayHour, min, sec⟩ := txLatchAt_registers (now s) s.tx elapsed
  have base : (txLatchAt (now s) s.tx).baseTime = s.tx.baseTime + seconds (e / 154828800 * 154828800) := by
    rw [txLatchAt_eq, elapsed]
    rfl
  have overflow := tx_overflow_tpp1Latch (exec_tpp1Latch s)
  exact ⟨_, exec_tpp1Latch s, onlyTx_replaced s _ _, nowCalls_ifRunning _ _, by rw [txLatchAt_eq], base, week, dayHour,
    min, sec, elapsed ▸ overflow⟩

/-- Settles O24: the quotients and remainders of the bytes are those of the elapsed time in mixed radix. -/
theorem txDecompositionLaw : Obligations.TxDecompositionLaw := by
  intro s
  obtain ⟨week, dayHour, min, sec⟩ := txLatchAt_registers (now s) s.tx rfl
  refine ⟨_, exec_tpp1Latch s, fun lt => ?_, ?_⟩ <;> simp only [week, dayHour, min, sec] <;> omega

/-! ## Settime -/

/-- The bytes W, H, M, S as seconds, with the day and hour of H as numbers. -/
theorem txSeconds_eq (x : Tx) :
    txSeconds x =
      x.w.toNat * 604800 + x.h.toNat / 32 * 86400 + x.h.toNat % 32 * 3600 + x.m.toNat * 60 + x.s.toNat := by
  have day : (x.h.extractLsb' 5 3).toNat = x.h.toNat / 32 := by
    rw [BitVec.extractLsb'_toNat, Nat.shiftRight_eq_div_pow]
    omega
  have hour : (x.h.extractLsb' 0 5).toNat = x.h.toNat % 32 := by
    rw [BitVec.extractLsb'_toNat, Nat.shiftRight_zero]
  rw [txSeconds, day, hour]

/-- Within a period a latch leaves the base time and the overflow flag. -/
theorem txLatchAt_within_period {t : Time} {x : Tx} (lt : (txElapsed t x).toNat < 154828800) :
    txLatchAt t x = { x with
      w := (txLatchAt t x).w, h := (txLatchAt t x).h, m := (txLatchAt t x).m, s := (txLatchAt t x).s } := by
  have base : x.baseTime + seconds ((txElapsed t x).toNat / 154828800 * 154828800) = x.baseTime := by
    rw [Nat.div_eq_of_lt lt]
    exact BitVec.add_zero _
  rw [txLatchAt_eq, base, decide_eq_false (Nat.not_le.mpr lt), Bool.or_false]

/-- A clock whose bytes are in range and stand for the time it shows is not changed by a latch. -/
theorem txLatchAt_of_shown {t : Time} {x : Tx} (shown : txElapsed t x = seconds (txSeconds x))
    (day : x.h.toNat / 32 ≤ 6) (hour : x.h.toNat % 32 ≤ 23) (min : x.m.toNat ≤ 59) (sec : x.s.toNat ≤ 59) :
    txLatchAt t x = x := by
  have sum := txSeconds_eq x
  have lt : txSeconds x < 154828800 := by
    have := x.w.isLt
    omega
  have elapsed : txSeconds x = (txElapsed t x).toNat := by
    rw [shown, seconds_toNat, Nat.mod_eq_of_lt (lt.trans (by decide))]
  obtain ⟨w, h, m, s⟩ := txLatchAt_registers t x elapsed
  have hw : (txLatchAt t x).w = x.w := BitVec.eq_of_toNat_eq (by omega)
  have hh : (txLatchAt t x).h = x.h := BitVec.eq_of_toNat_eq (by omega)
  have hm : (txLatchAt t x).m = x.m := BitVec.eq_of_toNat_eq (by omega)
  have hs : (txLatchAt t x).s = x.s := BitVec.eq_of_toNat_eq (by omega)
  rw [txLatchAt_within_period (elapsed ▸ lt), hw, hh, hm, hs]

/-- A latch that finds the bytes as they are only answers and counts `now()`. -/
theorem exec_tpp1Latch_of_kept {s : State} (kept : txLatchAt (now s) s.tx = s.tx) (done : s.answer = .done) :
    exec .tpp1Latch s = .next { s with nowCalls := s.nowCalls + (if s.tx.running then 1 else 0) } := by
  rw [exec_tpp1Latch, kept, nowCalls_ifRunning, ← done]

/-- Settles O25: the new base time makes the clock show the bytes, so a latch finds them as they are. -/
theorem txSettimeThenLatch : Obligations.TxSettimeThenLatch := by
  rintro s v rfl
  rw [← txSeconds_eq]
  have shown : txElapsed (now s) { s.tx with baseTime := txRef (now s) s.tx - seconds (txSeconds s.tx) } =
      seconds (txSeconds s.tx) := sub_sub_cancel _ _
  exact ⟨_, exec_tpp1Settime s, onlyTx_replaced s _ _, nowCalls_ifRunning _ _, rfl, rfl, shown,
    fun day hour min sec => exec_tpp1Latch_of_kept (txLatchAt_of_shown shown day hour min sec) rfl⟩

/-! ## Halt and resume -/

/-- Settles O26: a halt stores the time `tx_ref` gives, a resume moves the base time by the time spent halted. -/
theorem txHaltAndResume : Obligations.TxHaltAndResume := by
  refine ⟨fun s running => ⟨_, exec_tpp1Halt_acts s running, onlyTx_replaced s _ _, rfl, rfl, fun v => ?_⟩,
    exec_tpp1Halt_ignored, fun s halted => ⟨_, exec_tpp1Resume_acts s halted, onlyTx_replaced s _ _, rfl, rfl, ?_⟩,
    exec_tpp1Resume_ignored⟩
  · simp [txElapsed, txRef, running]
  · show now s - (s.tx.baseTime + (now s - s.tx.haltTime)) = s.tx.haltTime - s.tx.baseTime
    ring

/-! ## The register window -/

/-- Settles O20: the two halves of the ROM bank register, the RAM bank register, and `txStatus_toNat`. -/
theorem txMapperRegisterReads : Obligations.TxMapperRegisterReads := by
  refine ⟨fun s => ⟨_, _, _, _, exec_txRdMr0 s, BitVec.extractLsb'_toNat .., exec_txRdMr1 s, ?_, exec_txRdMr2 s, rfl,
    exec_txRdMr3 s, txStatus_toNat s.tx⟩, fun m t tpp1 re clock map window => ?_, fun c rom halted => ?_⟩
  · rw [BitVec.extractLsb'_toNat, Nat.shiftRight_eq_div_pow]
    omega
  · have selected : m.readsTx 0#2 = true := by simp [DecodeMode.readsTx, tpp1, re, clock, map]
    rw [decode_xramRead window, decodeRdXram_of_txMr selected, decodeTxRdMr, pick4, low2, extractLsb'_tAddr t (by decide)]
  · have high : (State.resetFor c rom).mapper.rombank.extractLsb' 8 8 = 0x00#8 :=
      show (1#16).extractLsb' 8 8 = 0x00#8 by decide
    have status : txStatus (State.resetFor c rom).tx = 0xF0#8 := by
      simp [txStatus, State.resetFor, Tx.reset, halted]
    exact ⟨rfl, by rw [exec_txRdMr1, high], rfl, by rw [exec_txRdMr3, status]⟩

/-- Settles O21: in map mode 3 without the clock feature the window invariant keeps the RAM window closed. -/
theorem txClockRegisterReads : Obligations.TxClockRegisterReads := by
  refine ⟨fun s => ⟨exec_txRdW s, exec_txRdH s, exec_txRdM s, exec_txRdS s⟩,
    fun m t tpp1 re clock map window => ?_, fun s off inv tpp1 mode absent => exec_rdXram_closed off s ?_⟩
  · have selected : m.readsTx 3#2 = true := by simp [DecodeMode.readsTx, tpp1, re, clock, map]
    rw [decode_xramRead window, decodeRdXram_of_txClock selected, decodeTxRdClock, pick4, low2,
      extractLsb'_tAddr t (by decide)]
  · rw [inv.win_eq, windowsOf, tpp1]
    simp only [tpp1Windows, mode]
    exact absent

/-- Settles O22: what each write leaves in its byte is a choice by the map mode. -/
theorem txClockRegisterWrites : Obligations.TxClockRegisterWrites := by
  refine ⟨fun s data map => ?_, fun s data map => ?_⟩
  · simp only [exec_txWrW, exec_txWrH, exec_txWrM, exec_txWrS, if_pos map, and_self]
  · simp only [exec_txWrW, exec_txWrH, exec_txWrM, exec_txWrS, if_neg map, and_self]

end Sys2Proof.Machine
end

section
/-! RAM enable of the variants other than MBC3 and HuC1, and the MBC1 bank writes (spec/43_common_plain.md R231 to R235,
spec/44_mbc1_multi64.md R240 to R244, R250, spec/45_mbc2.md R261, spec/48_mbc5.md R291). -/

namespace Sys2Proof.Machine

/-- An operation that replaces mapper registers and windows changes nothing else. -/
theorem onlyMapperAndWindows_replaced (s : State) (m : Mapper) (w : Windows) :
    OnlyMapperAndWindows s { s with mapper := m, win := w, answer := .done } :=
  ⟨rfl, sameImages_of_eq rfl rfl⟩

/-! ## RAM enable -/

/-- Settles O30: the mask of the RAM banks leaves bank 0, so the three operations agree. -/
theorem ramEnableAtBankZero : Obligations.RamEnableAtBankZero := by
  intro s data i mem _
  have done : exec i s = .next { s with
      mapper := { s.mapper with enableRam := enables data }
      win := { s.win with ram := 0#8, re := enables data, we := enables data, rtcEn := false }
      answer := .done } := by
    rw [← ramEnableValue_eq]
    simp only [List.mem_cons, List.not_mem_nil, or_false] at mem
    rcases mem with rfl | rfl | rfl
    · rw [exec_plainRamen, effRam_zero]
    · rw [exec_mbc2Ramen, effRam_zero]
    · exact exec_m64Ramen data s
  exact ⟨_, done, onlyMapperAndWindows_replaced s _ _, rfl, rfl⟩

/-- Settles O31: both operations aim the RAM window at the masked `M.rambank` (`effRam_toNat`). -/
theorem ramEnableBanked : Obligations.RamEnableBanked := by
  intro s data i mem legal
  have done : exec i s = .next { s with
      mapper := { s.mapper with enableRam := enables data }
      win := { s.win with
        ram := effRam s.cfg s.mapper.rambank, re := enables data, we := enables data, rtcEn := false }
      answer := .done } := by
    rw [← ramEnableValue_eq]
    simp only [List.mem_cons, List.not_mem_nil, or_false] at mem
    rcases mem with rfl | rfl
    · exact exec_mbc1Ramen data s
    · exact exec_mbc5Ramen data s
  exact ⟨_, done, onlyMapperAndWindows_replaced s _ _, rfl, rfl, effRam_toNat _ _ legal⟩

/-! ## What the window invariant keeps under a bank write -/

/-- Only MBC1-Multi64 ever moves the low window from bank 0. -/
theorem Invariant.rom0_eq_zero {s : State} (inv : Invariant s) (other : s.cfg.variant ≠ .mbc1m64) :
    s.win.rom0 = 0#16 := by
  rw [inv.win_eq, windowsOf]
  cases variant : s.cfg.variant with
  | mbc1m64 => exact absurd variant other
  | tpp1 =>
    unfold tpp1Windows
    split_ifs <;> rfl
  | _ => rfl

/-- Aiming the ROM windows elsewhere than in MBC1-Multi64 moves only the high one. -/
theorem Invariant.aimRom_win {s : State} (inv : Invariant s) (other : s.cfg.variant ≠ .mbc1m64) (bank : RomBank) :
    { s.win with rom0 := 0#16, rom := bank } = { s.win with rom := bank } := by
  rw [← inv.rom0_eq_zero other]

/-- Aiming the RAM window of MBC1 or MBC5 moves the bank; its access already follows `M.enable_ram`. -/
theorem Invariant.aimRamBanked_win {s : State} (inv : Invariant s)
    (banked : s.cfg.variant = .mbc1 ∨ s.cfg.variant = .mbc5) (bank : RamBank) :
    { s.win with ram := bank, re := s.mapper.enableRam, we := s.mapper.enableRam, rtcEn := false } =
      { s.win with ram := bank } := by
  rcases banked with variant | variant <;> rw [inv.win_eq, windowsOf, variant]

/-! ## MBC1 bank writes -/

/-- The bank an MBC1 high window shows (R244). -/
theorem maskRom_adjusted_toNat {c : Cfg} (legal : c.legal = true) {b : RomBank} {bank : Nat} (value : b.toNat = bank) :
    (maskRom c (adjusted b)).toNat = adjustedNumber bank % c.rombanks := by
  rw [maskRom_toNat c _ legal, adjusted_toNat, value]

/-- BANK1 in RAM mode clears the upper two bits, in ROM mode keeps them (R241). -/
theorem mbc1Bank1_toNat {bank : RomBank} (lt : bank.toNat < 0x80) (mode : Bool) (data : Byte) :
    (if mode then bankLow5 data else withBankLow5 bank data).toNat =
      (if mode then 0 else bank.toNat / 32 * 32) + data.toNat % 32 := by
  cases mode with
  | true => exact (bankLow5_toNat data).trans (Nat.zero_add _).symm
  | false =>
    rw [if_neg Bool.false_ne_true, if_neg Bool.false_ne_true, withBankLow5_toNat]
    omega

/-- Settles O35: the invariant bounds `M.rombank` by seven bits and keeps the low window and the RAM access in place. -/
theorem mbc1BankWrites : Obligations.Mbc1BankWrites := by
  refine ⟨fun s data bank inv mbc1 e => ?_, fun s data bank inv mbc1 romMode e => ?_, fun s data inv mbc1 ramMode => ?_⟩
  · have lt : s.mapper.rombank.toNat < 0x80 := by simpa [rombankLegal, mbc1] using inv.mapper.rombank
    have value := (mbc1Bank1_toNat lt s.mapper.ramBankMode data).trans e.symm
    exact ⟨_, exec_mbc1Bank1 data s, onlyMapperAndWindows_replaced s _ _, rfl, value,
      inv.aimRom_win (by simp [mbc1]) _, maskRom_adjusted_toNat inv.cfg value⟩
  · have value := (withBankHigh2_toNat s.mapper.rombank data).trans e.symm
    exact ⟨_, exec_mbc1Bank2_rom data s romMode, onlyMapperAndWindows_replaced s _ _, rfl, value,
      inv.aimRom_win (by simp [mbc1]) _, maskRom_adjusted_toNat inv.cfg value⟩
  · have value := ramBankLow2_toNat data
    exact ⟨_, exec_mbc1Bank2_ram data s ramMode, onlyMapperAndWindows_replaced s _ _, rfl, value,
      inv.aimRamBanked_win (.inl mbc1) _, value ▸ effRam_toNat _ _ inv.cfg⟩

end Sys2Proof.Machine
end

section
/-! The control-register writes that are ignored (spec/43_common_plain.md R236, spec/45_mbc2.md R263, spec/48_mbc5.md R295,
spec/49_tpp1.md R314, R315): the rows, and where a write decodes to one of them. -/

namespace Sys2Proof

/-- The rows of the ignored control-register writes. -/
def ignoredWrites (data : Byte) : List Instr :=
  [.plainIgnR1 data, .plainIgnR23 data, .mbc2Ign0100 data, .mbc2Ign2000 data, .mbc2IgnHi data, .mbc5Ign data,
    .tpp1Mr3ign data, .tpp1Ign data]

/-! ## Where a write is ignored -/

/-- PLAIN outside region 0 (R236). -/
theorem decodePlain_ignored {a : Addr} (lo : 0x2000 ≤ a.toNat) (hi : a.toNat < 0x8000) (data : Byte) :
    decodePlain a data ∈ ignoredWrites data := by
  have not0 : region a ≠ 0#2 := mt extractLsb'_eq_iff.mp (by omega)
  refine pick4_ind (· ∈ ignoredWrites data) _ _ _ _ _ (fun region0 => absurd region0 not0) (fun _ => ?_) (fun _ => ?_)
    (fun _ => ?_) <;> simp [ignoredWrites]

/-- MBC2 outside its two registers (R263). -/
theorem decodeMbc2_ignored {a : Addr} (notRamen : a &&& 0x6100#16 ≠ 0x0000#16) (notRomb : a &&& 0x6100#16 ≠ 0x2100#16)
    (data : Byte) : decodeMbc2 a data ∈ ignoredWrites data := by
  rw [decodeMbc2, if_neg notRamen, if_neg notRomb]
  split_ifs <;> simp [ignoredWrites]

/-- MBC5 in region 3 (R295). -/
theorem decodeMbc5_ignored {a : Addr} (lo : 0x6000 ≤ a.toNat) (hi : a.toNat < 0x8000) (data : Byte) :
    decodeMbc5 a data ∈ ignoredWrites data := by
  have region3 : region a = 3#2 := extractLsb'_eq_iff.mpr (by omega)
  have row : decodeMbc5 a data = .mbc5Ign data := by
    rw [decodeMbc5, region3]
    rfl
  simp [row, ignoredWrites]

/-- TPP1 from `0x4000` on (R314). -/
theorem decodeTpp1_upper_ignored {a : Addr} (lo : 0x4000 ≤ a.toNat) (hi : a.toNat < 0x8000) (data : Byte) :
    decodeTpp1 a data ∈ ignoredWrites data := by
  have bit14 : a.getLsbD 14 = true := by
    rw [getLsbD_eq_decide, decide_eq_true_eq]
    omega
  rw [decodeTpp1, if_pos bit14]
  simp [ignoredWrites]

/-- The MR3 codes that act, as numbers. -/
theorem mr3Acts_iff (code : Byte) : mr3Acts code = true ↔
    code.toNat ∈ [0x00, 0x02, 0x03, 0x05, 0x10, 0x11, 0x14, 0x18, 0x19, 0x20, 0x21, 0x22, 0x23] := by
  revert code
  decide

/-- TPP1's MR3 at a code that does not act (R315). -/
theorem decodeTpp1_mr3_ignored {a : Addr} {code : Byte} (hi : a.toNat < 0x4000) (register : a.toNat % 4 = 3)
    (idle : ¬ mr3Acts code = true) : decodeTpp1 a code ∈ ignoredWrites code := by
  have bit14 : ¬ a.getLsbD 14 = true := by
    rw [getLsbD_eq_decide, decide_eq_true_eq]
    omega
  have mr3 : low2 a = 3#2 := extractLsb'_eq_iff.mpr (by omega)
  have wf : (Instr.tpp1Mr3ign code).wf = true := by simp [Instr.wf, idle]
  have row : decodeTpp1 a code = .tpp1Mr3ign code := by
    rw [decodeTpp1, if_neg bit14, mr3, ← decodeMr3_ignored wf]
    rfl
  simp [row, ignoredWrites]

end Sys2Proof

namespace Sys2Proof.Machine

/-! ## What an ignored write does -/

theorem exec_of_mem_ignoredWrites {i : Instr} {data : Byte} (ignored : i ∈ ignoredWrites data) (s : State) :
    exec i s = .next { s with answer := .done } := by
  simp only [ignoredWrites, List.mem_cons, List.not_mem_nil, or_false] at ignored
  rcases ignored with rfl | rfl | rfl | rfl | rfl | rfl | rfl | rfl
  · exact exec_plainIgnR1 data s
  · exact exec_plainIgnR23 data s
  · exact exec_mbc2Ign0100 data s
  · exact exec_mbc2Ign2000 data s
  · exact exec_mbc2IgnHi data s
  · exact exec_mbc5Ign data s
  · exact exec_tpp1Mr3ign data s
  · exact exec_tpp1Ign data s

/-- Settles O40: at each of the addresses the write decoder of the variant gives an ignored row. -/
theorem ignoredWritesChangeNothing : Obligations.IgnoredWritesChangeNothing := by
  refine ⟨fun s data i ignored => exec_of_mem_ignoredWrites ignored s, fun s m a data low address => ?_⟩
  have row : decodeControl m.variant a data ∈ ignoredWrites data := by
    rcases address with ⟨v, lo⟩ | ⟨v, notRamen, notRomb⟩ | ⟨v, lo⟩ | ⟨v, lo⟩ | ⟨v, hi, register, idle⟩ <;> rw [v]
    · exact decodePlain_ignored lo low data
    · exact decodeMbc2_ignored notRamen notRomb data
    · exact decodeMbc5_ignored lo low data
    · exact decodeTpp1_upper_ignored lo low data
    · exact decodeTpp1_mr3_ignored hi register (mt (mr3Acts_iff data).mp idle)
  rw [decode_pack_low m true data (getLsbD_15_of_lt low), if_pos rfl]
  exact exec_of_mem_ignoredWrites row s

end Sys2Proof.Machine
end

section
/-! The mode register of MBC1, and the bank and mode writes of MBC1-Multi64 (spec/44_mbc1_multi64.md R243, R251 to R254,
R257). -/

namespace Sys2Proof

/-- An MBC1 write at `0x6000..0x7FFF` (R123). -/
theorem decode_mbc1Mode {m : DecodeMode} {t : Word} (mbc1 : m.variant = .mbc1) (row : t.extractLsb' 21 4 = 0b1011#4) :
    decode m t = .mbc1Mode (tData t) := by
  have write : t.extractLsb' 23 2 = 0b10#2 := extractLsb'_of_extractLsb' row (k := 2) (by decide)
  have region3 : region (tAddr t) = 3#2 :=
    (extractLsb'_tAddr t (by decide)).trans (extractLsb'_of_extractLsb' row (k := 0) (by decide))
  rw [decode_controlWrite (beq_of_eq mbc1) write, decodeControl, decodeMbc1, region3]
  rfl

end Sys2Proof

namespace Sys2Proof.Machine

/-! ## The MBC1 mode register -/

/-- Settles O36: MODE writes one register bit, and the row of the next bank write branches on that bit. -/
theorem mbc1ModeMovesNoWindow : Obligations.Mbc1ModeMovesNoWindow := by
  refine ⟨fun m t => decode_mbc1Mode, fun s data => ⟨_, exec_mbc1Mode data s, ?_, sameImages_of_eq rfl rfl,
    fun odd data' => ?_, fun even data' => ?_⟩⟩
  · rw [dataBit0_eq]
  · have ramMode : dataBit0 data = true := by rw [dataBit0_eq, decide_eq_true odd]
    exact ⟨_, exec_mbc1Bank1 data' _, rfl, (congrArg BitVec.toNat (if_pos ramMode)).trans (bankLow5_toNat data')⟩
  · have romMode : dataBit0 data = false := by simp [dataBit0_eq, even]
    exact ⟨_, exec_mbc1Bank2_rom data' _ romMode, rfl, rfl⟩

/-! ## The windows of MBC1-Multi64 -/

/-- Where MBC1-Multi64 aims its ROM windows: in multicart mode both at the sub-cart that bits 6:5 name (R254, R257). -/
theorem aimRomM64_toNat {s : State} (legal : s.cfg.legal = true) (m64 : s.cfg.variant = .mbc1m64) {bank : Nat}
    (value : s.mapper.rombank.toNat = bank) (lt : bank < 0x80) :
    (aimRomM64 s).win.rom0.toNat = (if s.mapper.ramBankMode then bank / 32 * 16 else 0) ∧
    (aimRomM64 s).win.rom.toNat =
      if s.mapper.ramBankMode then adjustedNumber (bank / 32 * 16 + bank % 16) else adjustedNumber bank % 64 := by
  obtain ⟨-, -, -, -, sized, -⟩ := (Cfg.legal_iff s.cfg).mp legal
  have twoBits : bank / 32 % 4 = bank / 32 := Nat.mod_eq_of_lt (by omega)
  have subcart : (toMulti64 s.mapper.rombank &&& 0x30#16).toNat = bank / 32 * 16 := by
    rw [toMulti64_subcart_toNat, value, twoBits]
  have shown : (adjusted (toMulti64 s.mapper.rombank)).toNat = adjustedNumber (bank / 32 * 16 + bank % 16) := by
    rw [adjusted_toNat, toMulti64_toNat, value, twoBits]
  rw [aimRomM64_eq]
  cases s.mapper.ramBankMode with
  | true => exact ⟨subcart, shown⟩
  | false => exact ⟨rfl, (sized m64).1 ▸ maskRom_adjusted_toNat legal value⟩

/-- Settles O37: each of the three writes replaces a part of the register or the mode and aims the ROM windows anew. -/
theorem m64BankAndModeWrites : Obligations.M64BankAndModeWrites := by
  intro s data i bank mode inv m64 write
  have lt : s.mapper.rombank.toNat < 0x80 := by simpa [rombankLegal, m64] using inv.mapper.rombank
  have aimed : ∃ b : RomBank, b.toNat = bank ∧ bank < 0x80 ∧ exec i s =
      complete (aimRomM64 { s with mapper := { s.mapper with rombank := b, ramBankMode := mode } }) := by
    rcases write with ⟨rfl, rfl, rfl⟩ | ⟨rfl, rfl, rfl⟩ | ⟨rfl, rfl, rfl⟩
    · refine ⟨withBankLow5 s.mapper.rombank data, ?_, by omega, rfl⟩
      rw [withBankLow5_toNat, Nat.mod_eq_of_lt (by omega)]
    · exact ⟨_, withBankHigh2_toNat s.mapper.rombank data, by omega, rfl⟩
    · exact ⟨s.mapper.rombank, rfl, lt, by rw [← dataBit0_eq]; rfl⟩
  obtain ⟨b, value, inside, done⟩ := aimed
  have windows := aimRomM64_toNat (s := { s with mapper := { s.mapper with rombank := b, ramBankMode := mode } })
    inv.cfg m64 value inside
  rw [aimRomM64_eq] at done windows
  exact ⟨_, done, onlyMapperAndWindows_replaced s _ _, rfl, value, rfl, windows⟩

/-! ## Debug queries -/

/-- The MBC1-Multi64 answer of `can_map_bank_at` is an equivalence (R256). -/
theorem m64CanMap_eq (addr : Addr) (bank : Nat) :
    m64CanMap addr bank = decide (addr.toNat < 0x4000 ↔ bank % 16 = 0) := by
  rw [m64CanMap, Bool.eq_iff_iff, beq_iff_eq, decide_eq_decide, decide_eq_true_iff]

/-- A query of an area other than the ROM and the RAM image is refused (R355). -/
theorem getMemoryArea_refused {id : Nat} (s : State) (notRom : id ≠ 1) (notRam : id ≠ 3) :
    ∃ r, getMemoryArea id s = .refused r ∧ r ∈ [Refusal.areaOutsideBlock id, .areaUnspecified id] := by
  rw [getMemoryArea, if_neg notRom, if_neg notRam]
  split
  · exact ⟨_, rfl, .head _⟩
  · exact ⟨_, rfl, .tail _ (.head _)⟩

/-- Settles O57: each query answers or is refused, and only a free answer is counted. -/
theorem debugQueries : Obligations.DebugQueries := by
  refine ⟨fun s => ⟨rfl, rfl⟩, fun s id => getMemoryArea_refused s, fun s addr bank m64 => ?_, fun s addr bank other => ?_⟩
  · rw [← m64CanMap_eq]
    exact if_pos m64
  · exact ⟨_, if_neg other⟩

end Sys2Proof.Machine
end

section
/-! The MBC2 bank write (spec/45_mbc2.md R262). -/

namespace Sys2Proof

/-- An MBC2 write at an address whose bits 14, 13 and 8 are 0, 1 and 1 (R125). -/
theorem decode_mbc2Romb {m : DecodeMode} {t : Word} (mbc2 : m.variant = .mbc2) (row : t.extractLsb' 21 4 = 0b1001#4)
    (odd : t.getLsbD 16 = true) : decode m t = .mbc2Romb (tData t) := by
  have write : t.extractLsb' 23 2 = 0b10#2 := extractLsb'_of_extractLsb' row (k := 2) (by decide)
  have region1 : region (tAddr t) = 1#2 :=
    (extractLsb'_tAddr t (by decide)).trans (extractLsb'_of_extractLsb' row (k := 0) (by decide))
  have bit8 : (tAddr t).getLsbD 8 = true := (getLsbD_tAddr t (by decide)).trans odd
  rw [decode_controlWrite (beq_of_eq mbc2) write, decodeControl, decodeMbc2_eq, region1, bit8]
  rfl

end Sys2Proof

namespace Sys2Proof.Machine

/-- Settles O38: the row is `exec_mbc2Romb`, whose mask is the remainder by the ROM size (`maskRom_toNat`). -/
theorem mbc2RomBank : Obligations.Mbc2RomBank := by
  refine ⟨fun m t => decode_mbc2Romb, fun s data inv mbc2 => ?_⟩
  have shown : (maskRom s.cfg (bankLow4 data)).toNat = data.toNat % 16 % s.cfg.rombanks := by
    rw [maskRom_toNat _ _ inv.cfg, bankLow4_toNat]
  exact ⟨_, exec_mbc2Romb data s, onlyMapperAndWindows_replaced s _ _, rfl, bankLow4_toNat data,
    inv.aimRom_win (by simp [mbc2]) _, shown⟩

end Sys2Proof.Machine
end

section
/-! The MBC3 bank write (spec/46_mbc3.md R272). -/

namespace Sys2Proof

/-- The low two of the four format bits are the region of the address (R123). -/
theorem region_tAddr_of_row {t : Word} {field : BitVec 4} (row : t.extractLsb' 21 4 = field) :
    region (tAddr t) = field.extractLsb' 0 2 :=
  (extractLsb'_tAddr t (by decide)).trans (extractLsb'_of_extractLsb' row (k := 0) (by decide))

/-- An MBC3 write at `0x2000..0x3FFF` (R123). -/
theorem decode_mbc3Romb {m : DecodeMode} {t : Word} (mbc3 : m.variant = .mbc3) (row : t.extractLsb' 21 4 = 0b1001#4) :
    decode m t = .mbc3Romb (tData t) := by
  have write : t.extractLsb' 23 2 = 0b10#2 := extractLsb'_of_extractLsb' row (k := 2) (by decide)
  rw [decode_controlWrite (beq_of_eq mbc3) write, decodeControl, decodeMbc3, region_tAddr_of_row row]
  rfl

end Sys2Proof

namespace Sys2Proof.Machine

/-- Settles O39: the row is `exec_mbc3Romb`; the window shows the remainder of the redirected bank (`zeroToOne_toNat`),
the register keeps the bank itself. -/
theorem mbc3RomBank : Obligations.Mbc3RomBank := by
  refine ⟨fun m t => decode_mbc3Romb, fun s data inv mbc3 => ?_⟩
  have shown : (maskRom s.cfg (zeroToOne (bankLow7 data))).toNat =
      (if data.toNat % 128 = 0 then 1 else data.toNat % 128) % s.cfg.rombanks := by
    rw [maskRom_toNat _ _ inv.cfg, zeroToOne_toNat, bankLow7_toNat]
  exact ⟨_, exec_mbc3Romb data s, onlyMapperAndWindows_replaced s _ _, rfl, bankLow7_toNat data,
    inv.aimRom_win (by simp [mbc3]) _, shown⟩

end Sys2Proof.Machine
end

section
/-! HuC1 RAM enable, and its bank and mode writes (spec/47_huc1.md R280 to R284). -/

namespace Sys2Proof.Machine

/-! ## The windows of HuC1 -/

/-- The bank a HuC1 RAM window shows (R280). -/
theorem huc1RamBank_toNat {c : Cfg} (legal : c.legal = true) (mode : Bool) (bank : RamBank) :
    (if mode then effRam c bank else 0#8).toNat = if mode then ramBankNumber c bank.toNat else 0 := by
  cases mode with
  | true => exact effRam_toNat c bank legal
  | false => rfl

/-- The bank a HuC1 high window shows: masked, never adjusted (R280). -/
theorem maskRom_huc1RomBank_toNat {c : Cfg} (legal : c.legal = true) {m : Mapper} (lt : m.rombank.toNat < 64) :
    (maskRom c (huc1RomBank m)).toNat =
      (if m.ramBankMode then m.rombank.toNat else m.rambank.toNat * 64 + m.rombank.toNat) % c.rombanks := by
  rw [maskRom_toNat _ _ legal, huc1RomBank_toNat m lt]

/-- `sync()` of a HuC1 whose RAM enable is kept moves only the banks of the high window and of the RAM window. -/
theorem Invariant.sync_huc1 {s : State} (inv : Invariant s) (huc1 : s.cfg.variant = .huc1) {m : Mapper}
    (enable : m.enableRam = s.mapper.enableRam) :
    complete (sync { s with mapper := m }) = .next { s with
      mapper := m
      win := { s.win with
        rom := maskRom s.cfg (huc1RomBank m), ram := if m.ramBankMode then effRam s.cfg m.rambank else 0#8 }
      answer := .done } :=
  (next_eq_sync_noClock huc1 (by simp only [inv.win_eq, windowsOf, huc1, enable])).symm

/-! ## The control-register writes -/

/-- Settles O33: the row is `exec_huc1Ramen`, which aims the RAM window and sets only its write flag by the data. -/
theorem huc1RamEnable : Obligations.Huc1RamEnable := by
  intro s data legal
  have done := exec_huc1Ramen data s
  rw [ramEnableValue_eq] at done
  exact ⟨_, done, onlyMapperAndWindows_replaced s _ _, rfl, rfl, huc1RamBank_toNat legal _ _⟩

/-- Settles O34: each write replaces a bank or the mode and ends as `sync()` of the new registers would. -/
theorem huc1BankAndModeWrites : Obligations.Huc1BankAndModeWrites := by
  intro s data i rombank rambank mode inv huc1 write
  have lt : s.mapper.rombank.toNat < 64 := by simpa [rombankLegal, huc1] using inv.mapper.rombank
  have synced : ∃ (b : RomBank) (r : RamBank), b.toNat = rombank ∧ r.toNat = rambank ∧ b.toNat < 64 ∧ exec i s =
      complete (sync { s with mapper := { s.mapper with rombank := b, rambank := r, ramBankMode := mode } }) := by
    rcases write with ⟨rfl, rfl, rfl, rfl⟩ | ⟨rfl, rfl, rfl, rfl⟩ | ⟨rfl, rfl, rfl, rfl⟩
    · have value := bankLow6_toNat data
      exact ⟨_, _, value, rfl, by omega, exec_of_registersAfter inv huc1 rfl rfl⟩
    · exact ⟨_, _, rfl, ramBankLow2_toNat data, lt, exec_of_registersAfter inv huc1 rfl rfl⟩
    · rw [← dataBit0_eq]
      exact ⟨_, _, rfl, rfl, lt, exec_of_registersAfter inv huc1 rfl rfl⟩
  obtain ⟨b, r, rfl, rfl, inside, done⟩ := synced
  exact ⟨_, done.trans (inv.sync_huc1 huc1 rfl), onlyMapperAndWindows_replaced s _ _, rfl, rfl, rfl, rfl,
    maskRom_huc1RomBank_toNat inv.cfg inside, huc1RamBank_toNat inv.cfg _ _⟩

end Sys2Proof.Machine
end

section
/-! The bank writes of MBC5 (spec/48_mbc5.md R292 to R294), and the bank registers and map mode commands of TPP1
(spec/49_tpp1.md R301 to R307). -/

namespace Sys2Proof.Machine

/-! ## ROM banks -/

/-- A write that replaces `M.rombank` and aims the ROM windows by the mask alone moves only the high window, to the remainder
of the bank. -/
theorem Invariant.maskedRomBank_written {s : State} (inv : Invariant s) (other : s.cfg.variant ≠ .mbc1m64) {i : Instr}
    {b : RomBank} {bank : Nat} (value : b.toNat = bank)
    (done : exec i s = .next { s with
      mapper := { s.mapper with rombank := b }
      win := { s.win with rom0 := 0#16, rom := maskRom s.cfg b }
      answer := .done }) :
    ∃ t, exec i s = .next t ∧ OnlyMapperAndWindows s t ∧
      t.mapper = { s.mapper with rombank := t.mapper.rombank } ∧ t.mapper.rombank.toNat = bank ∧
      t.win = { s.win with rom := t.win.rom } ∧ t.win.rom.toNat = bank % s.cfg.rombanks :=
  ⟨_, done, onlyMapperAndWindows_replaced s _ _, rfl, value, inv.aimRom_win other _, value ▸ maskRom_toNat _ _ inv.cfg⟩

/-- ROMB0 keeps all of a nine-bit bank above the low byte (R292). -/
theorem withLowByte9_toNat_of_lt {bank : RomBank} (lt : bank.toNat < 0x200) (data : Byte) :
    ((bank &&& 0x100#16) ||| bankByte data).toNat = bank.toNat / 256 * 256 + data.toNat := by
  rw [withLowByte9_toNat, Nat.mod_eq_of_lt (by omega)]

/-- Settles O41: the invariant bounds `M.rombank` by nine bits; the RAM bank is masked by `effRam_toNat`. -/
theorem mbc5BankWrites : Obligations.Mbc5BankWrites := by
  refine ⟨fun s data i bank inv mbc5 write => ?_, fun s data inv mbc5 => ?_⟩
  · have other : s.cfg.variant ≠ .mbc1m64 := by simp [mbc5]
    have lt : s.mapper.rombank.toNat < 0x200 := by simpa [rombankLegal, mbc5] using inv.mapper.rombank
    rcases write with ⟨rfl, rfl⟩ | ⟨rfl, rfl⟩
    · exact inv.maskedRomBank_written other (withLowByte9_toNat_of_lt lt data) (exec_mbc5Romb0 data s)
    · exact inv.maskedRomBank_written other (withBit8_toNat _ data) (exec_mbc5Romb1 data s)
  · have value := ramBankLow4_toNat data
    exact ⟨_, exec_mbc5Ramb data s, onlyMapperAndWindows_replaced s _ _, rfl, value, inv.aimRamBanked_win (.inr mbc5) _,
      value ▸ effRam_toNat _ _ inv.cfg⟩

/-! ## The RAM window of TPP1 -/

/-- In TPP1 the RAM bank register decides which bank the RAM window shows, and nothing of its access (R300). -/
theorem tpp1Windows_rambank (c : Cfg) (m : Mapper) (bank : RamBank) :
    tpp1Windows c { m with rambank := bank } = { tpp1Windows c m with ram := effRam c bank } := by
  unfold tpp1Windows
  split_ifs <;> rfl

theorem Invariant.win_eq_tpp1 {s : State} (inv : Invariant s) (tpp1 : s.cfg.variant = .tpp1) :
    s.win = tpp1Windows s.cfg s.mapper := by
  rw [inv.win_eq, windowsOf, tpp1]

/-- Settles O42: the two halves of the ROM bank; the RAM bank moves, its access stays (`tpp1Windows_rambank`). -/
theorem tpp1BankRegisterWrites : Obligations.Tpp1BankRegisterWrites := by
  refine ⟨fun s data i bank inv tpp1 write => ?_, fun s data inv tpp1 => ?_⟩
  · have other : s.cfg.variant ≠ .mbc1m64 := by simp [tpp1]
    rcases write with ⟨rfl, rfl⟩ | ⟨rfl, rfl⟩
    · exact inv.maskedRomBank_written other (withLowByte16_toNat _ data) (exec_tpp1Mr0 data s)
    · exact inv.maskedRomBank_written other (withHighByte16_toNat _ data) (exec_tpp1Mr1 data s)
  · have done := exec_tpp1Mr2 data s
    rw [tpp1Windows_rambank, ← inv.win_eq_tpp1 tpp1] at done
    exact ⟨_, done, onlyMapperAndWindows_replaced s _ _, rfl, rfl, effRam_toNat _ _ inv.cfg⟩

/-! ## The map mode commands -/

/-- The RAM window of TPP1 is always at the masked `M.rambank` (R300). -/
theorem Invariant.ram_eq_tpp1 {s : State} (inv : Invariant s) (tpp1 : s.cfg.variant = .tpp1) :
    effRam s.cfg s.mapper.rambank = s.win.ram := by
  rw [inv.win_eq_tpp1 tpp1]
  exact (congrArg Windows.ram (tpp1Windows_rambank s.cfg s.mapper s.mapper.rambank)).symm

/-- Settles O43: each command is `decode_mr3` at its code and one row of `exec`, whose RAM bank is where it was; only mode 3
without the clock feature closes the window, to reads and writes alike. -/
theorem tpp1MapModeCommands : Obligations.Tpp1MapModeCommands := by
  refine ⟨fun m t tpp1 region register => ?_, fun s i k re we rtcEn inv tpp1 command => ?_⟩
  · have row : decode m t = decodeMr3 (t.extractLsb' 0 8) := decode_mr3 tpp1 region register
    refine ⟨fun code => ?_, fun code => ?_, fun code => ?_, fun code => ?_⟩ <;> rw [row, code] <;> rfl
  · have ⟨done, closed⟩ : exec i s = .next { s with
        mapper := { s.mapper with mapmode := k }, tx := { s.tx with curmap := k }
        win := { s.win with ram := effRam s.cfg s.mapper.rambank, re := re, we := we, rtcEn := rtcEn }
        answer := .done } ∧ (re = false → we = false) := by
      rcases command with ⟨rfl, rfl, rfl, rfl, rfl⟩ | ⟨rfl, rfl, rfl, rfl, rfl⟩ | ⟨rfl, rfl, rfl, rfl, rfl⟩ |
        ⟨rfl, rfl, rfl, rfl, rfl⟩
      · exact ⟨exec_tpp1Map0 s, nofun⟩
      · exact ⟨exec_tpp1Map1 s, nofun⟩
      · exact ⟨exec_tpp1Map2 s, nofun⟩
      · exact ⟨exec_tpp1Map3 s, id⟩
    rw [inv.ram_eq_tpp1 tpp1] at done
    exact ⟨_, done, sameImages_of_eq rfl rfl, rfl, fun noRead off data =>
      ⟨exec_rdXram_closed off _ noRead, exec_wrXram_closed off data _ (closed noRead)⟩⟩

end Sys2Proof.Machine
end

section
/-! A load that fails, and where the host is refused (spec/60_exceptions.md R330, R331, R338, R339, R342, R350, R364). -/

namespace Sys2Proof.Machine

/-! ## A failed load -/

/-- A load whose checks fail only answers the error (R339). -/
theorem loadRom_error {bytes : List Byte} {e : LoadError} (check : checkRom bytes = .error e)
    (forceDmg multicartCompat : Bool) (s : State) :
    loadRom bytes forceDmg multicartCompat s = .next { s with answer := .loadFailed e } := by
  rw [loadRom, check]
  rfl

/-- A load that answers an error changed nothing else: a load whose checks pass answers `loaded`. -/
theorem loadRom_failed {bytes : List Byte} {forceDmg multicartCompat : Bool} {s t : State} {e : LoadError}
    (h : loadRom bytes forceDmg multicartCompat s = .next t) (failed : t.answer = .loadFailed e) :
    t = { s with answer := .loadFailed e } := by
  cases check : checkRom bytes with
  | error e' =>
    rw [loadRom_error check] at h
    injection h with h
    subst h
    rw [← failed]
  | ok v =>
    rw [loadRom_ok check] at h
    injection h with h
    subst h
    nomatch failed

/-- A load at the head of the queue is run, whether the block is live or not (R364). -/
theorem step_loadRom {s : State} {bytes : List Byte} {forceDmg multicartCompat : Bool} {rest : List Request}
    (queue : s.queue = .host (.loadRom bytes forceDmg multicartCompat) :: rest) :
    step s = loadRom bytes forceDmg multicartCompat { s with queue := rest } :=
  (step_of_queue_cons queue).trans (runHostOp_loadRom ..)

/-- Settles O51: a load is its checks (`loadRom_failed`), of which the length is the first (R331). -/
theorem failedLoadChangesNothing : Obligations.FailedLoadChangesNothing := by
  refine ⟨fun s t bytes forceDmg multicartCompat rest e queue next failed => ?_,
    fun s bytes forceDmg multicartCompat rest queue short => ?_⟩
  · rw [step_loadRom queue] at next
    exact loadRom_failed next failed
  · rw [step_loadRom queue]
    exact loadRom_error (if_pos short) ..

/-! ## Refusals -/

/-- After tear-down a load and a new answer of the host clock are the only requests that are not refused (R364). -/
theorem runRequest_tornDown {r : Request} {s : State} (tornDown : s.live = false)
    (noLoad : ∀ bytes fd mc, r ≠ .host (.loadRom bytes fd mc)) (noClock : ∀ v, r ≠ .clock v) :
    runRequest r s = .refused .tornDown := by
  cases r with
  | bus t => simp [runRequest, runBus, tornDown]
  | host op =>
    cases op with
    | loadRom bytes fd mc => exact absurd rfl (noLoad bytes fd mc)
    | _ => simp only [runRequest, runHostOp, tornDown]
  | clock v => exact absurd rfl (noClock v)

/-- Settles O58: the test of each operation, and `runRequest_tornDown`. -/
theorem hostRefusals : Obligations.HostRefusals := by
  refine ⟨fun s bytes short => if_pos short, fun s snap foreign => ?_, fun s rest live queue => ?_,
    fun s r rest tornDown queue noLoad noClock => ?_⟩
  · exact if_neg fun own => foreign.elim (absurd own.1) (absurd own.2)
  · exact (step_of_queue_cons queue).trans (runHostOp_of_live live)
  · exact (step_of_queue_cons queue).trans (runRequest_tornDown tornDown noLoad noClock)

end Sys2Proof.Machine
end

section
/-! Save-data and snapshots (spec/60_exceptions.md R341 to R344, R350 to R353). -/

namespace Sys2Proof.Machine

/-! ## The base time as bytes -/

/-- Four bytes as a number, least significant first (R341). -/
theorem timeOfBytes_toNat (bs : List Byte) :
    (timeOfBytes bs).toNat = (bs.getD 0 0#8).toNat + (bs.getD 1 0#8).toNat * 2 ^ 8 + (bs.getD 2 0#8).toNat * 2 ^ 16
      + (bs.getD 3 0#8).toNat * 2 ^ 24 := by
  have join {n : Nat} (hi : BitVec n) (lo : Byte) : (hi ++ lo).toNat = hi.toNat * 2 ^ 8 + lo.toNat := by
    rw [BitVec.toNat_append, Nat.shiftLeft_eq]
    exact nat_or_parts hi.toNat lo.toNat 8 lo.isLt
  rw [timeOfBytes, join, join, join]
  ring

/-- Byte `k` of a base time (R343). -/
theorem bytesOfTime_getD_toNat (v : Time) {k : Nat} (lt : k < 4) :
    ((bytesOfTime v).getD k 0#8).toNat = v.toNat / 2 ^ (8 * k) % 2 ^ 8 := by
  have byte : (bytesOfTime v).getD k 0#8 = v.extractLsb' (8 * k) 8 := by
    interval_cases k <;> rfl
  rw [byte, BitVec.extractLsb'_toNat, Nat.shiftRight_eq_div_pow]

/-- A base time written out as bytes and read back is the same time. -/
theorem timeOfBytes_bytesOfTime (v : Time) : timeOfBytes (bytesOfTime v) = v := by
  apply BitVec.eq_of_toNat_eq
  have lt := v.isLt
  rw [timeOfBytes_toNat, bytesOfTime_getD_toNat v (by decide), bytesOfTime_getD_toNat v (by decide),
    bytesOfTime_getD_toNat v (by decide), bytesOfTime_getD_toNat v (by decide)]
  omega

/-! ## Import -/

/-- The RAM image after an import (R341). -/
def importedRam (c : Cfg) (bytes : List Byte) (ram : Memory) : Memory :=
  if c.battery then Memory.ofBytes ramBlank 0 (bytes.take c.ramSize) else ram

/-- The MBC3 clock after an import of the base time `v`, which a TPP1 routes elsewhere (R341). -/
def importedRtc (c : Cfg) (v : Time) (r : Rtc) : Rtc :=
  if c.hasRtc = true ∧ c.variant ≠ .tpp1 then { r with baseTime := v } else r

/-- The TPP1 extension after an import of the base time `v` (R341). -/
def importedTx (c : Cfg) (v : Time) (x : Tx) : Tx :=
  if c.hasRtc = true ∧ c.variant = .tpp1 then { x with baseTime := v } else x

theorem importedRtc_of_ne {c : Cfg} (clock : c.hasRtc = true) (other : c.variant ≠ .tpp1) (v : Time) (r : Rtc) :
    importedRtc c v r = { r with baseTime := v } := if_pos ⟨clock, other⟩

theorem importedRtc_of_tpp1 {c : Cfg} (tpp1 : c.variant = .tpp1) (v : Time) (r : Rtc) : importedRtc c v r = r :=
  if_neg fun rtc => rtc.2 tpp1

theorem importedTx_of_tpp1 {c : Cfg} (clock : c.hasRtc = true) (tpp1 : c.variant = .tpp1) (v : Time) (x : Tx) :
    importedTx c v x = { x with baseTime := v } := if_pos ⟨clock, tpp1⟩

theorem importedTx_of_ne {c : Cfg} (other : c.variant ≠ .tpp1) (v : Time) (x : Tx) : importedTx c v x = x :=
  if_neg fun tx => other tx.2

/-- Without a clock an import has no base time (R341). -/
theorem imported_of_noClock {c : Cfg} (noClock : ¬ c.hasRtc = true) (v : Time) (r : Rtc) (x : Tx) :
    importedRtc c v r = r ∧ importedTx c v x = x :=
  ⟨if_neg fun rtc => noClock rtc.1, if_neg fun tx => noClock tx.1⟩

theorem importRam_eq (bytes : List Byte) (s : State) :
    importRam bytes s = { s with ram := importedRam s.cfg bytes s.ram } := by
  unfold importRam importedRam
  split <;> rfl

theorem importTime_eq (bytes : List Byte) (s : State) :
    importTime bytes s = { s with
      rtc := importedRtc s.cfg (timeOfBytes (bytes.drop (timeOffset s.cfg))) s.rtc
      tx := importedTx s.cfg (timeOfBytes (bytes.drop (timeOffset s.cfg))) s.tx } := by
  unfold importTime setActiveBaseTime
  by_cases clock : s.cfg.hasRtc = true
  · by_cases tpp1 : s.cfg.variant = .tpp1
    · rw [if_pos clock, if_pos tpp1, importedRtc_of_tpp1 tpp1, importedTx_of_tpp1 clock tpp1]
      rfl
    · rw [if_pos clock, if_neg tpp1, importedRtc_of_ne clock tpp1, importedTx_of_ne tpp1]
      rfl
  · obtain ⟨rtc, tx⟩ := imported_of_noClock clock (timeOfBytes (bytes.drop (timeOffset s.cfg))) s.rtc s.tx
    rw [if_neg clock, rtc, tx]

/-- An import of a blob that is long enough (R341, R342). -/
theorem loadSavedata_eq {bytes : List Byte} {s : State} (long : blobLength s.cfg ≤ bytes.length) :
    loadSavedata bytes s = .next { s with
      ram := importedRam s.cfg bytes s.ram
      rtc := importedRtc s.cfg (timeOfBytes (bytes.drop (timeOffset s.cfg))) s.rtc
      tx := importedTx s.cfg (timeOfBytes (bytes.drop (timeOffset s.cfg))) s.tx
      answer := .done } := by
  rw [loadSavedata, if_neg (Nat.not_lt.mpr long), importRam_eq, importTime_eq]
  rfl

/-- Byte `i` of the RAM image after an import (R341). -/
theorem read_importedRam {c : Cfg} (battery : c.battery = true) (bytes : List Byte) (ram : Memory) {i : Nat}
    (lt : i < c.ramSize) : Memory.read ramBlank (importedRam c bytes ram) i = bytes.getD i 0#8 := by
  rw [importedRam, if_pos battery, Memory.read_ofBytes, if_pos (Nat.zero_le i), Nat.sub_zero,
    List.getD_eq_getElem?_getD, List.getElem?_take_of_lt lt, ← List.getD_eq_getElem?_getD]
  rfl

theorem getD_drop (bytes : List Byte) (p k : Nat) : (bytes.drop p).getD k 0#8 = bytes.getD (p + k) 0#8 := by
  rw [List.getD_eq_getElem?_getD, List.getElem?_drop, ← List.getD_eq_getElem?_getD]

/-- Settles O53: the closed form of an import, field by field. -/
theorem savedataImport : Obligations.SavedataImport := by
  rintro s bytes n p rfl rfl long
  refine ⟨_, loadSavedata_eq long, rfl, fun battery i => read_importedRam battery bytes s.ram,
    fun noBattery => if_neg (ne_true_of_eq_false noBattery),
    fun noClock => imported_of_noClock (ne_true_of_eq_false noClock) _ _ _,
    fun clock => ⟨timeOfBytes (bytes.drop (timeOffset s.cfg)), ?_,
      fun tpp1 => ⟨importedTx_of_tpp1 clock tpp1 _ _, importedRtc_of_tpp1 tpp1 _ _⟩,
      fun other => ⟨importedRtc_of_ne clock other _ _, importedTx_of_ne other _ _⟩⟩⟩
  rw [timeOfBytes_toNat, getD_drop, getD_drop, getD_drop, getD_drop]
  rfl

/-! ## Export -/

/-- The RAM part of a blob (R343). -/
def savedRam (s : State) : List Byte := if s.cfg.battery then Memory.toBytes ramBlank s.ram s.cfg.ramSize else []

/-- The base time part of a blob (R343). -/
def savedTime (s : State) : List Byte := if s.cfg.hasRtc then bytesOfTime (activeBaseTime s) else []

theorem savedRam_of_battery {s : State} (battery : s.cfg.battery = true) :
    savedRam s = Memory.toBytes ramBlank s.ram s.cfg.ramSize := if_pos battery

theorem savedTime_of_clock {s : State} (clock : s.cfg.hasRtc = true) :
    savedTime s = bytesOfTime (activeBaseTime s) := if_pos clock

theorem saveBlob_eq (s : State) : saveBlob s = savedRam s ++ savedTime s := rfl

/-- The RAM part ends where the base time stands (R341). -/
theorem length_savedRam (s : State) : (savedRam s).length = timeOffset s.cfg := by
  unfold savedRam timeOffset
  split
  · exact Memory.length_toBytes ..
  · rfl

theorem length_savedTime (s : State) : (savedTime s).length = if s.cfg.hasRtc then 4 else 0 := by
  unfold savedTime
  split <;> rfl

theorem length_saveBlob (s : State) : (saveBlob s).length = blobLength s.cfg := by
  rw [saveBlob_eq, List.length_append, length_savedRam, length_savedTime]
  rfl

/-- Byte `i` of the RAM part of a blob (R343). -/
theorem getD_saveBlob_ram {s : State} (battery : s.cfg.battery = true) {i : Nat} (lt : i < s.cfg.ramSize) :
    (saveBlob s).getD i 0#8 = ramByte i s := by
  rw [saveBlob_eq, savedRam_of_battery battery, List.getD_append _ _ _ _ (by rwa [Memory.length_toBytes])]
  exact Memory.getD_toBytes ramBlank s.ram lt

/-- From the offset on a blob is its base time part. -/
theorem drop_saveBlob (s : State) : (saveBlob s).drop (timeOffset s.cfg) = savedTime s := by
  rw [saveBlob_eq, ← length_savedRam, List.drop_left]

/-- Settles O54: the two parts of the blob, byte by byte. -/
theorem savedataExport : Obligations.SavedataExport := by
  rintro s n p rfl rfl
  refine ⟨rfl, saveBlob s, rfl, length_saveBlob s, fun battery i => getD_saveBlob_ram battery, fun clock k lt => ?_⟩
  have byte : (saveBlob s).getD (timeOffset s.cfg + k) 0#8 = (bytesOfTime (activeBaseTime s)).getD k 0#8 := by
    rw [← getD_drop, drop_saveBlob, savedTime_of_clock clock]
  exact (congrArg BitVec.toNat byte).trans (bytesOfTime_getD_toNat _ lt)

/-! ## The round trip of save-data -/

/-- An exported image is imported as it was; without a battery there is none (R344). -/
theorem importedRam_saveBlob {s : State} (fits : s.ram.Fits ramBlank s.cfg.ramSize) (ram : Memory) :
    importedRam s.cfg (saveBlob s) ram = if s.cfg.battery then s.ram else ram := by
  unfold importedRam
  split
  case isTrue battery =>
    rw [saveBlob_eq, savedRam_of_battery battery, List.take_left' (Memory.length_toBytes ..)]
    exact Memory.ofBytes_toBytes fits.canonical fits.inside
  case isFalse => rfl

/-- An exported base time is imported as it was (R344). -/
theorem timeOfBytes_saveBlob {s : State} (clock : s.cfg.hasRtc = true) :
    timeOfBytes ((saveBlob s).drop (timeOffset s.cfg)) = activeBaseTime s := by
  rw [drop_saveBlob, savedTime_of_clock clock, timeOfBytes_bytesOfTime]

theorem importedRtc_saveBlob (s : State) (r : Rtc) :
    importedRtc s.cfg (timeOfBytes ((saveBlob s).drop (timeOffset s.cfg))) r =
      importedRtc s.cfg s.rtc.baseTime r := by
  unfold importedRtc
  split
  case isTrue rtc => rw [timeOfBytes_saveBlob rtc.1, activeBaseTime, if_neg rtc.2]
  case isFalse => rfl

theorem importedTx_saveBlob (s : State) (x : Tx) :
    importedTx s.cfg (timeOfBytes ((saveBlob s).drop (timeOffset s.cfg))) x = importedTx s.cfg s.tx.baseTime x := by
  unfold importedTx
  split
  case isTrue tx => rw [timeOfBytes_saveBlob tx.1, activeBaseTime, if_pos tx.2]
  case isFalse => rfl

/-- A blob imported into a block of the same configuration: RAM image and base time are those of the exporting block. -/
theorem loadSavedata_saveBlob {s u : State} (fits : s.ram.Fits ramBlank s.cfg.ramSize) (same : u.cfg = s.cfg) :
    loadSavedata (saveBlob s) u = .next { u with
      ram := if s.cfg.battery then s.ram else u.ram
      rtc := importedRtc s.cfg s.rtc.baseTime u.rtc
      tx := importedTx s.cfg s.tx.baseTime u.tx
      answer := .done } := by
  have long : blobLength u.cfg ≤ (saveBlob s).length := by rw [same, length_saveBlob]
  rw [loadSavedata_eq long, same, importedRam_saveBlob fits, importedRtc_saveBlob, importedTx_saveBlob]

/-- Settles O55: over the same block each of the three fields is replaced by itself. -/
theorem savedataRoundTrip : Obligations.SavedataRoundTrip := by
  intro s inv
  refine ⟨saveBlob s, rfl, ?_, fun rom => ⟨_, loadSavedata_saveBlob inv.ram rfl, fun battery => ?_,
    fun clock tpp1 => ?_, fun clock other => ?_⟩⟩
  · have rtc : importedRtc s.cfg s.rtc.baseTime s.rtc = s.rtc := ite_self _
    have tx : importedTx s.cfg s.tx.baseTime s.tx = s.tx := ite_self _
    have imported := loadSavedata_saveBlob inv.ram (u := s) rfl
    rwa [rtc, tx, ite_self] at imported
  · exact if_pos battery
  · rw [importedTx_of_tpp1 clock tpp1]
  · rw [importedRtc_of_ne clock other]

/-! ## Snapshots -/

/-- The record of a state of the invariant is legal for its cartridge. -/
theorem Invariant.snapshotOf_legal {s : State} (inv : Invariant s) : (snapshotOf s).Legal :=
  ⟨inv.mapper, inv.rtc, inv.tx, inv.ram⟩

/-- Settles O56: the windows are a function of configuration and restored registers (`sync_eq`), the same as before. -/
theorem snapshotRoundTrip : Obligations.SnapshotRoundTrip := by
  refine fun s inv => ⟨snapshotOf s, inv.snapshotOf_legal, rfl, fun u cfg rom => ?_⟩
  obtain ⟨win, rtc, tx⟩ := (sync_fixed_iff s).mp inv.windows
  have restored : sync (restore (snapshotOf s) u) =
      { u with mapper := s.mapper, win := s.win, ram := s.ram, rtc := s.rtc, tx := s.tx } := by
    rw [sync_eq]
    simp only [restore, snapshotOf, cfg, ← win, ← rtc, ← tx]
  exact (if_pos ⟨cfg.symm, rom.symm⟩).trans (congrArg complete restored)

end Sys2Proof.Machine
end
